-- ==== Sys2Proof/Word.lean ====
section
/-! DEFINITION. The word types of STEPGEN (00_scope R12) and the per-axis vector of six places. -/

namespace Sys2Proof

/-- A byte of a storage space (20_memory R72). -/
abbrev Byte := BitVec 8

/-- A host word, an accumulator, an increment, a position: 32 bits. -/
abbrev Word := BitVec 32

/-- A 16-bit field or timer register. -/
abbrev Half := BitVec 16

/-- A segment descriptor as one value, `W1 ++ W0` (30_encoding R100). -/
abbrev SegWord := BitVec 64

/-- An axis number. A pool entry has room for six axes (00_scope R5), so no configuration has more. -/
abbrev Axis := Fin 6

/-- One bit per axis, bit `i` = axis `i`. Bits of axes the configuration does not have stay 0 (log 11). -/
abbrev AxisBits := BitVec 6

/-- One value per axis. -/
structure AxisVec (α : Type) where
  a0 : α
  a1 : α
  a2 : α
  a3 : α
  a4 : α
  a5 : α
deriving DecidableEq, Repr

/-- The value of axis `i`. -/
def AxisVec.get {α : Type} (v : AxisVec α) (i : Axis) : α :=
  match i with
  | 0 => v.a0
  | 1 => v.a1
  | 2 => v.a2
  | 3 => v.a3
  | 4 => v.a4
  | 5 => v.a5

/-- The vector whose value at axis `i` is `f i`. -/
def AxisVec.ofFn {α : Type} (f : Axis → α) : AxisVec α :=
  ⟨f 0, f 1, f 2, f 3, f 4, f 5⟩

/-- The same value on every axis. -/
def AxisVec.fill {α : Type} (x : α) : AxisVec α :=
  ⟨x, x, x, x, x, x⟩

/-- Bit `i` of an axis mask. -/
def AxisBits.bit (b : AxisBits) (i : Axis) : Bool :=
  b.getLsbD i.val

/-- The axis mask whose bit `i` is `f i`. -/
def AxisBits.ofFn (f : Axis → Bool) : AxisBits :=
  BitVec.ofFnLE f

end Sys2Proof
end

