-- ==== Sys2Proof/Syntax.lean ====
section
/-! DEFINITION. The instructions: one constructor per row of spec/opcode_table.json, in the table's order. -/

namespace Sys2Proof

/-- The stored fields of a segment descriptor (10_state R41, 30_encoding R100). Reserved bits 47..45 are not stored. -/
structure Segment where
  /-- `n_step`, bits 15..0 -/
  nStep : Half
  /-- `cycles_per_tick`, bits 31..16 -/
  cyclesPerTick : Half
  /-- `st_block_index`, bits 39..32 -/
  stBlockIndex : BitVec 8
  /-- `amass_level`, bits 43..40 -/
  amassLevel : BitVec 4
  /-- `backlash_motion`, bit 44 -/
  backlashMotion : Bool
  /-- `spindle_pwm`, bits 63..48 -/
  spindlePwm : Half
deriving DecidableEq, Repr

/-- The six commands of 30_encoding R104. -/
inductive Command where
  | init
  | wake
  | disable (ovr : Bool)
  | reset
  | genmask
  | publish
deriving DecidableEq, Repr

/-- Every row of spec/opcode_table.json. `d` is the 32-bit write data of a host write, `i` the axis index
`addr[4:2]` of `POS`, `b` the pool index `(addr - 0x100) >> 5` (30_encoding R105). -/
inductive Instr where
  /-- `SEG`, the segment descriptor the engine fetches from `SEG[tail]` -/
  | seg (f : Segment)
  /-- `INIT` -/
  | init
  /-- `WAKE` -/
  | wake
  /-- `DISABLE ovr` -/
  | disable (ovr : Bool)
  /-- `RESET` -/
  | reset
  /-- `GENMASK` -/
  | genmask
  /-- `PUBLISH` -/
  | publish
  /-- `STW.CMD` -/
  | stwCmd (d : Word)
  /-- `LDW.STATUS` -/
  | ldwStatus
  /-- `LDW.FLAGS` -/
  | ldwFlags
  /-- `STW.FLAGS` -/
  | stwFlags (d : Word)
  /-- `LDW.HEAD` -/
  | ldwHead
  /-- `LDW.TAIL` -/
  | ldwTail
  /-- `LDW.SET_STEP_INV` -/
  | ldwSetStepInv
  /-- `STW.SET_STEP_INV` -/
  | stwSetStepInv (d : Word)
  /-- `LDW.SET_DIR_INV` -/
  | ldwSetDirInv
  /-- `STW.SET_DIR_INV` -/
  | stwSetDirInv (d : Word)
  /-- `LDW.SET_FLAGS` -/
  | ldwSetFlags
  /-- `STW.SET_FLAGS` -/
  | stwSetFlags (d : Word)
  /-- `LDW.SET_IDLE_LOCK` -/
  | ldwSetIdleLock
  /-- `STW.SET_IDLE_LOCK` -/
  | stwSetIdleLock (d : Word)
  /-- `LDW.SYSCTL` -/
  | ldwSysctl
  /-- `STW.SYSCTL` -/
  | stwSysctl (d : Word)
  /-- `LDW.SEGW0` -/
  | ldwSegw0
  /-- `STW.SEGW0` -/
  | stwSegw0 (d : Word)
  /-- `LDW.SEGW1` -/
  | ldwSegw1
  /-- `STW.SEGW1` -/
  | stwSegw1 (d : Word)
  /-- `LDW.STEP_INV` -/
  | ldwStepInv
  /-- `LDW.DIR_INV` -/
  | ldwDirInv
  /-- `LDW.PINS` -/
  | ldwPins
  /-- `LDW.SPINDLE` -/
  | ldwSpindle
  /-- `LDW.TIM_ARR` -/
  | ldwTimArr
  /-- `LDW.TIM_CCR` -/
  | ldwTimCcr
  /-- `LDW.TIM_CNT` -/
  | ldwTimCnt
  /-- `LDW.POS[i]` -/
  | ldwPos (i : BitVec 3)
  /-- `LDW.BLK[b].SEC` -/
  | ldwBlkSec (b : BitVec 7)
  /-- `STW.BLK[b].SEC` -/
  | stwBlkSec (b : BitVec 7) (d : Word)
  /-- `LDW.BLK[b].FLG` -/
  | ldwBlkFlg (b : BitVec 7)
  /-- `STW.BLK[b].FLG` -/
  | stwBlkFlg (b : BitVec 7) (d : Word)
  /-- `LDW.BLK[b].STEPS[0]` -/
  | ldwBlkSteps0 (b : BitVec 7)
  /-- `STW.BLK[b].STEPS[0]` -/
  | stwBlkSteps0 (b : BitVec 7) (d : Word)
  /-- `LDW.BLK[b].STEPS[1]` -/
  | ldwBlkSteps1 (b : BitVec 7)
  /-- `STW.BLK[b].STEPS[1]` -/
  | stwBlkSteps1 (b : BitVec 7) (d : Word)
  /-- `LDW.BLK[b].STEPS[2]` -/
  | ldwBlkSteps2 (b : BitVec 7)
  /-- `STW.BLK[b].STEPS[2]` -/
  | stwBlkSteps2 (b : BitVec 7) (d : Word)
  /-- `LDW.BLK[b].STEPS[3]` -/
  | ldwBlkSteps3 (b : BitVec 7)
  /-- `STW.BLK[b].STEPS[3]` -/
  | stwBlkSteps3 (b : BitVec 7) (d : Word)
  /-- `LDW.BLK[b].STEPS[4]` -/
  | ldwBlkSteps4 (b : BitVec 7)
  /-- `STW.BLK[b].STEPS[4]` -/
  | stwBlkSteps4 (b : BitVec 7) (d : Word)
  /-- `LDW.BLK[b].STEPS[5]` -/
  | ldwBlkSteps5 (b : BitVec 7)
  /-- `STW.BLK[b].STEPS[5]` -/
  | stwBlkSteps5 (b : BitVec 7) (d : Word)
  /-- `TICK`, the main timer handler; no encoding (30_encoding R111) -/
  | tick
  /-- `PRESET`, the pulse-reset handler; no encoding (30_encoding R111) -/
  | preset
deriving DecidableEq, Repr

/-- The command instruction a command word stands for. -/
def Command.toInstr : Command → Instr
  | .init => .init
  | .wake => .wake
  | .disable ovr => .disable ovr
  | .reset => .reset
  | .genmask => .genmask
  | .publish => .publish

end Sys2Proof
end

