-- ==== Sys2Proof/WellFormed.lean ====
section
/-! DEFINITION. Which instructions an encoding exists for, as far as it is a matter of an operand's range. -/

namespace Sys2Proof

/-- A pool index the 12-bit address `0x100 + 0x20 * b` can hold: `b < 120` (20_memory R71, R76). Whether entry `b`
exists depends on the configuration and is checked where the access is made (20_memory R77). -/
def wfBlock (b : BitVec 7) : Bool :=
  decide (b.toNat < 120)

/-- The instruction's operands lie in the range its encoding has. Every other operand fills its field. -/
def WellFormed : Instr → Bool
  | .seg _ => true
  | .init => true
  | .wake => true
  | .disable _ => true
  | .reset => true
  | .genmask => true
  | .publish => true
  | .stwCmd _ => true
  | .ldwStatus => true
  | .ldwFlags => true
  | .stwFlags _ => true
  | .ldwHead => true
  | .ldwTail => true
  | .ldwSetStepInv => true
  | .stwSetStepInv _ => true
  | .ldwSetDirInv => true
  | .stwSetDirInv _ => true
  | .ldwSetFlags => true
  | .stwSetFlags _ => true
  | .ldwSetIdleLock => true
  | .stwSetIdleLock _ => true
  | .ldwSysctl => true
  | .stwSysctl _ => true
  | .ldwSegw0 => true
  | .stwSegw0 _ => true
  | .ldwSegw1 => true
  | .stwSegw1 _ => true
  | .ldwStepInv => true
  | .ldwDirInv => true
  | .ldwPins => true
  | .ldwSpindle => true
  | .ldwTimArr => true
  | .ldwTimCcr => true
  | .ldwTimCnt => true
  | .ldwPos _ => true
  | .ldwBlkSec b => wfBlock b
  | .stwBlkSec b _ => wfBlock b
  | .ldwBlkFlg b => wfBlock b
  | .stwBlkFlg b _ => wfBlock b
  | .ldwBlkSteps0 b => wfBlock b
  | .stwBlkSteps0 b _ => wfBlock b
  | .ldwBlkSteps1 b => wfBlock b
  | .stwBlkSteps1 b _ => wfBlock b
  | .ldwBlkSteps2 b => wfBlock b
  | .stwBlkSteps2 b _ => wfBlock b
  | .ldwBlkSteps3 b => wfBlock b
  | .stwBlkSteps3 b _ => wfBlock b
  | .ldwBlkSteps4 b => wfBlock b
  | .stwBlkSteps4 b _ => wfBlock b
  | .ldwBlkSteps5 b => wfBlock b
  | .stwBlkSteps5 b _ => wfBlock b
  | .tick => true
  | .preset => true

end Sys2Proof
end

