-- ==== Sys2Proof/Decode.lean ====
section
/-! DEFINITION. The decoder and the encoder: the three kinds of word of 30_encoding R99, read and written from the
tables of R100, R104, R105 and 20_memory R76. -/

namespace Sys2Proof

/-! ## Words as they are presented -/

/-- A word STEPGEN decodes, with its kind (30_encoding R99). -/
inductive Encoded where
  /-- Format `SEG64`: the 64-bit value `W1 ++ W0`. -/
  | seg64 (w : SegWord)
  /-- Format `CMD32`: the word written to `CMD`. -/
  | cmd32 (w : Word)
  /-- Format `MMIO`: one transaction `(we, addr)`, with the write data. -/
  | mmio (we : Bool) (addr : BitVec 12) (data : Word)
deriving DecidableEq, Repr

/-- The formats of 30_encoding R99. -/
inductive Format where
  | seg64
  | cmd32
  | mmio
deriving DecidableEq, Repr

/-- Why a word is no instruction. -/
inductive DecodeError where
  /-- A command word that matches no row (30_encoding R107). -/
  | illegalCommand
  /-- `addr[1:0] != 00` (20_memory R73). -/
  | misaligned
  /-- A width other than 32 bits (20_memory R73). -/
  | narrow
  /-- No register at the address (20_memory R77). -/
  | unmapped
  /-- A read of a W register (20_memory R77). -/
  | writeOnly
  /-- A write of an R register (20_memory R77). -/
  | readOnly
  /-- Fewer bytes than the format has (30_encoding R109). -/
  | tooShort
deriving DecidableEq, Repr

/-! ## SEG64 -/

/-- The fields of a segment descriptor: 30_encoding R100, R101; the reserved bits 47..45 are dropped. -/
def decodeSegment (w : SegWord) : Segment where
  nStep := w.extractLsb' 0 16
  cyclesPerTick := w.extractLsb' 16 16
  stBlockIndex := w.extractLsb' 32 8
  amassLevel := w.extractLsb' 40 4
  backlashMotion := w.getLsbD 44
  spindlePwm := w.extractLsb' 48 16

/-- The descriptor with reserved bits 0 (30_encoding R100, R106). -/
def encodeSegment (f : Segment) : SegWord :=
  f.spindlePwm ++ 0#3 ++ BitVec.ofBool f.backlashMotion ++ f.amassLevel ++ f.stBlockIndex ++ f.cyclesPerTick
    ++ f.nStep

/-! ## CMD32 -/

/-- The command map of 30_encoding R104: `arg[31:8] ++ op[7:0]`, every undefined `arg` bit 0 (R103). -/
def decodeCommand (w : Word) : Option Command :=
  let op := w.extractLsb' 0 8
  let arg := w.extractLsb' 8 24
  if op = 0x01 ∧ arg = 0 then some .init
  else if op = 0x02 ∧ arg = 0 then some .wake
  else if op = 0x03 ∧ arg = 0 then some (.disable false)
  else if op = 0x03 ∧ arg = 1 then some (.disable true)
  else if op = 0x04 ∧ arg = 0 then some .reset
  else if op = 0x05 ∧ arg = 0 then some .genmask
  else if op = 0x06 ∧ arg = 0 then some .publish
  else none

/-- The word of a command (30_encoding R104). -/
def encodeCommand : Command → Word
  | .init => 0x00000001
  | .wake => 0x00000002
  | .disable ovr => if ovr then 0x00000103 else 0x00000003
  | .reset => 0x00000004
  | .genmask => 0x00000005
  | .publish => 0x00000006

/-! ## MMIO -/

/-- One scalar row of the address map: the instruction a read stands for and the one a write stands for, `none` in
a direction the register refuses. -/
structure ScalarRow where
  addr : BitVec 12
  read : Option Instr
  write : Option (Word → Instr)

/-- The scalar rows of the address map, 20_memory R76. -/
def scalarRows : List ScalarRow :=
  [⟨0x000, none, some .stwCmd⟩,
   ⟨0x004, some .ldwStatus, none⟩,
   ⟨0x008, some .ldwFlags, some .stwFlags⟩,
   ⟨0x00C, some .ldwHead, none⟩,
   ⟨0x010, some .ldwTail, none⟩,
   ⟨0x014, some .ldwSetStepInv, some .stwSetStepInv⟩,
   ⟨0x018, some .ldwSetDirInv, some .stwSetDirInv⟩,
   ⟨0x01C, some .ldwSetFlags, some .stwSetFlags⟩,
   ⟨0x020, some .ldwSetIdleLock, some .stwSetIdleLock⟩,
   ⟨0x024, some .ldwSysctl, some .stwSysctl⟩,
   ⟨0x028, some .ldwSegw0, some .stwSegw0⟩,
   ⟨0x02C, some .ldwSegw1, some .stwSegw1⟩,
   ⟨0x030, some .ldwStepInv, none⟩,
   ⟨0x034, some .ldwDirInv, none⟩,
   ⟨0x038, some .ldwPins, none⟩,
   ⟨0x03C, some .ldwSpindle, none⟩,
   ⟨0x060, some .ldwTimArr, none⟩,
   ⟨0x064, some .ldwTimCcr, none⟩,
   ⟨0x068, some .ldwTimCnt, none⟩]

/-- The address of `POS[i]`: `0x040 + 4 * i` (20_memory R76). -/
def posAddr (i : BitVec 3) : BitVec 12 :=
  0x040#12 + i.zeroExtend 12 <<< 2

/-- The address of word `word` of pool entry `b`: `0x100 + 0x20 * b + 4 * word` (30_encoding R102). -/
def poolAddr (b : BitVec 7) (word : BitVec 3) : BitVec 12 :=
  0x100#12 + b.zeroExtend 12 <<< 5 + word.zeroExtend 12 <<< 2

/-- The pool entry an address `>= 0x100` names: `(addr - 0x100) >> 5` (30_encoding R105). -/
def poolIndexOf (addr : BitVec 12) : BitVec 7 :=
  ((addr - 0x100) >>> 5).truncate 7

/-- The access to word `word` of pool entry `b` (30_encoding R102, R105). -/
def poolInstr (we : Bool) (b : BitVec 7) (word : Fin 8) (d : Word) : Instr :=
  match word with
  | 0 => if we then .stwBlkSec b d else .ldwBlkSec b
  | 1 => if we then .stwBlkFlg b d else .ldwBlkFlg b
  | 2 => if we then .stwBlkSteps0 b d else .ldwBlkSteps0 b
  | 3 => if we then .stwBlkSteps1 b d else .ldwBlkSteps1 b
  | 4 => if we then .stwBlkSteps2 b d else .ldwBlkSteps2 b
  | 5 => if we then .stwBlkSteps3 b d else .ldwBlkSteps3 b
  | 6 => if we then .stwBlkSteps4 b d else .ldwBlkSteps4 b
  | 7 => if we then .stwBlkSteps5 b d else .ldwBlkSteps5 b

/-- A host access of full width: alignment, mapping, direction, in that order (20_memory R73, R77, 60_exceptions
R273); an array row is consulted only when no scalar row matches (30_encoding R105). The index constraints of the
array rows depend on the configuration and are checked by the access itself (log 10). -/
def decodeMmio (we : Bool) (addr : BitVec 12) (data : Word) : Except DecodeError Instr :=
  if addr.extractLsb' 0 2 ≠ 0 then .error .misaligned
  else
    match scalarRows.find? (fun r => r.addr == addr) with
    | some row =>
      if we then
        match row.write with
        | some f => .ok (f data)
        | none => .error .readOnly
      else
        match row.read with
        | some i => .ok i
        | none => .error .writeOnly
    | none =>
      if 0x040 ≤ addr.toNat ∧ addr.toNat < 0x060 then
        if we then .error .readOnly else .ok (.ldwPos (addr.extractLsb' 2 3))
      else if 0x100 ≤ addr.toNat then
        .ok (poolInstr we (poolIndexOf addr) (addr.extractLsb' 2 3).toFin data)
      else .error .unmapped

/-! ## All kinds -/

/-- The instruction a word stands for, by its kind (30_encoding R99). -/
def decode : Encoded → Except DecodeError Instr
  | .seg64 w => .ok (.seg (decodeSegment w))
  | .cmd32 w =>
    match decodeCommand w with
    | some c => .ok c.toInstr
    | none => .error .illegalCommand
  | .mmio we addr data => decodeMmio we addr data

/-- The word of an instruction; `none` for `TICK` and `PRESET`, which have no encoding (30_encoding R111). -/
def encode : Instr → Option Encoded
  | .seg f => some (.seg64 (encodeSegment f))
  | .init => some (.cmd32 (encodeCommand .init))
  | .wake => some (.cmd32 (encodeCommand .wake))
  | .disable ovr => some (.cmd32 (encodeCommand (.disable ovr)))
  | .reset => some (.cmd32 (encodeCommand .reset))
  | .genmask => some (.cmd32 (encodeCommand .genmask))
  | .publish => some (.cmd32 (encodeCommand .publish))
  | .stwCmd d => some (.mmio true 0x000 d)
  | .ldwStatus => some (.mmio false 0x004 0)
  | .ldwFlags => some (.mmio false 0x008 0)
  | .stwFlags d => some (.mmio true 0x008 d)
  | .ldwHead => some (.mmio false 0x00C 0)
  | .ldwTail => some (.mmio false 0x010 0)
  | .ldwSetStepInv => some (.mmio false 0x014 0)
  | .stwSetStepInv d => some (.mmio true 0x014 d)
  | .ldwSetDirInv => some (.mmio false 0x018 0)
  | .stwSetDirInv d => some (.mmio true 0x018 d)
  | .ldwSetFlags => some (.mmio false 0x01C 0)
  | .stwSetFlags d => some (.mmio true 0x01C d)
  | .ldwSetIdleLock => some (.mmio false 0x020 0)
  | .stwSetIdleLock d => some (.mmio true 0x020 d)
  | .ldwSysctl => some (.mmio false 0x024 0)
  | .stwSysctl d => some (.mmio true 0x024 d)
  | .ldwSegw0 => some (.mmio false 0x028 0)
  | .stwSegw0 d => some (.mmio true 0x028 d)
  | .ldwSegw1 => some (.mmio false 0x02C 0)
  | .stwSegw1 d => some (.mmio true 0x02C d)
  | .ldwStepInv => some (.mmio false 0x030 0)
  | .ldwDirInv => some (.mmio false 0x034 0)
  | .ldwPins => some (.mmio false 0x038 0)
  | .ldwSpindle => some (.mmio false 0x03C 0)
  | .ldwTimArr => some (.mmio false 0x060 0)
  | .ldwTimCcr => some (.mmio false 0x064 0)
  | .ldwTimCnt => some (.mmio false 0x068 0)
  | .ldwPos i => some (.mmio false (posAddr i) 0)
  | .ldwBlkSec b => some (.mmio false (poolAddr b 0) 0)
  | .stwBlkSec b d => some (.mmio true (poolAddr b 0) d)
  | .ldwBlkFlg b => some (.mmio false (poolAddr b 1) 0)
  | .stwBlkFlg b d => some (.mmio true (poolAddr b 1) d)
  | .ldwBlkSteps0 b => some (.mmio false (poolAddr b 2) 0)
  | .stwBlkSteps0 b d => some (.mmio true (poolAddr b 2) d)
  | .ldwBlkSteps1 b => some (.mmio false (poolAddr b 3) 0)
  | .stwBlkSteps1 b d => some (.mmio true (poolAddr b 3) d)
  | .ldwBlkSteps2 b => some (.mmio false (poolAddr b 4) 0)
  | .stwBlkSteps2 b d => some (.mmio true (poolAddr b 4) d)
  | .ldwBlkSteps3 b => some (.mmio false (poolAddr b 5) 0)
  | .stwBlkSteps3 b d => some (.mmio true (poolAddr b 5) d)
  | .ldwBlkSteps4 b => some (.mmio false (poolAddr b 6) 0)
  | .stwBlkSteps4 b d => some (.mmio true (poolAddr b 6) d)
  | .ldwBlkSteps5 b => some (.mmio false (poolAddr b 7) 0)
  | .stwBlkSteps5 b d => some (.mmio true (poolAddr b 7) d)
  | .tick => none
  | .preset => none

/-! ## Byte strings and the table's numbering -/

/-- The number a little-endian byte string holds (20_memory R72). -/
def bytesToNat : List Byte → Nat
  | [] => 0
  | b :: bs => b.toNat + 256 * bytesToNat bs

/-- The low `n` bytes of `w`, the least significant first (20_memory R72). -/
def natToBytes : Nat → Nat → List Byte
  | 0, _ => []
  | n + 1, w => BitVec.ofNat 8 w :: natToBytes n (w / 256)

/-- How many bytes a format has: 8, 4, and for a transaction two bytes holding `we ++ addr` and four of write data
(30_encoding R109; the framing of a transaction is log 5). -/
def Format.size : Format → Nat
  | .seg64 => 8
  | .cmd32 => 4
  | .mmio => 6

/-- The word of a format that the low bits of `v` hold. -/
def Format.wordOf (k : Format) (v : Nat) : Encoded :=
  match k with
  | .seg64 => .seg64 (BitVec.ofNat 64 v)
  | .cmd32 => .cmd32 (BitVec.ofNat 32 v)
  | .mmio => .mmio (v.testBit 12) (BitVec.ofNat 12 v) (BitVec.ofNat 32 (v >>> 16))

/-- The word a byte string holds, read in a given format; further bytes are left alone. -/
def encodedOfBytes (k : Format) (bytes : List Byte) : Except DecodeError Encoded :=
  if bytes.length < k.size then .error .tooShort
  else .ok (k.wordOf (bytesToNat (bytes.take k.size)))

/-- The decoder on any byte string. -/
def decodeBytes (k : Format) (bytes : List Byte) : Except DecodeError Instr :=
  match encodedOfBytes k bytes with
  | .ok w => decode w
  | .error e => .error e

/-- The format of a row of spec/opcode_table.json by the number of bits the table gives it (log 5): 64 for `SEG64`,
32 for `CMD32`, 13 (in whole bytes 16) or, with its data, 48 for `MMIO`; `none` for the zero-width `EVENT` rows. -/
def formatOfBits (nbits : Nat) : Option Format :=
  if nbits = 64 then some .seg64
  else if nbits = 32 then some .cmd32
  else if nbits = 13 ∨ nbits = 16 ∨ nbits = 48 then some .mmio
  else none

/-- The word whose bits the table numbers as `w`, laid out in bytes and read back; bits above `nbits` are 0. -/
def encodedOfTableWord (nbits w : Nat) : Option Encoded :=
  match formatOfBits nbits with
  | none => none
  | some k => (encodedOfBytes k (natToBytes k.size (w % 2 ^ nbits))).toOption

/-- The instruction the decoder reads from an instruction whose bits are `w`, as spec/opcode_table.json numbers
them. -/
def decodeTableWord (nbits w : Nat) : Option Instr :=
  match encodedOfTableWord nbits w with
  | some e => (decode e).toOption
  | none => none

end Sys2Proof
end

