-- ==== Sys2Proof/Machine/Memory.lean ====
section
/-! DEFINITION. Byte memory as a canonical list: addresses strictly rising, one entry per address written. An
unlisted address holds no value of its own; what the machine reads there is said in Operands.lean (log 2). -/

namespace Sys2Proof.Machine

/-- A storage space: the bytes written so far, by address. -/
abbrev Memory := List Host.Cell

/-- The canonical form: addresses strictly rising. An unlisted address reads as no value, so no entry can equal what
an unlisted address reads as. -/
abbrev Memory.wf (m : Memory) : Prop :=
  m.Pairwise fun p q => p.1 < q.1

/-- The byte at an address, `none` where nothing was written. -/
def Memory.read : Memory → Nat → Option Byte
  | [], _ => none
  | (k, v) :: m, a => if k = a then some v else Memory.read m a

/-- Write one byte. -/
def Memory.write : Memory → Nat → Byte → Memory
  | [], a, v => [(a, v)]
  | (k, w) :: m, a, v =>
    if a < k then (a, v) :: (k, w) :: m
    else if a = k then (a, v) :: m
    else (k, w) :: Memory.write m a v

/-- The little-endian word at an address (20_memory R72), `free` where nothing was written. -/
def Memory.readWord (m : Memory) (free : Nat → Byte) (a : Nat) : Word :=
  let byte := fun k => (m.read (a + k)).getD (free (a + k))
  byte 3 ++ byte 2 ++ byte 1 ++ byte 0

/-- Write a word, little-endian (20_memory R72). -/
def Memory.writeWord (m : Memory) (a : Nat) (v : Word) : Memory :=
  (((m.write a (v.extractLsb' 0 8)).write (a + 1) (v.extractLsb' 8 8)).write (a + 2) (v.extractLsb' 16 8)).write
    (a + 3) (v.extractLsb' 24 8)

end Sys2Proof.Machine
end

