-- ==== Sys2Proof/Config.lean ====
section
/-! DEFINITION. The configuration record of 00_scope R5 and the free values the spec leaves open. -/

namespace Sys2Proof

/-- Where in the `TICK` handler the probe strobe is issued (41_see_tick R188, decision D28, open item U13). -/
inductive ProbePollPoint where
  /-- After Phase C and the homing mask; the reference. -/
  | afterC
  /-- Between Phase B and Phase C. -/
  | beforeC
deriving DecidableEq, Repr

/-- The hold between the last step edge and the pin reset of a shutdown (41_see_tick R176, decision D30, open item U15). -/
inductive LastPulseHold where
  /-- `T_LAST_PULSE` is the current `ccr`; the reference. -/
  | currentCcr
  /-- `T_LAST_PULSE` is a fixed number of timer clocks. -/
  | clocks (n : Nat)
deriving DecidableEq, Repr

/-- The implementation parameters of 00_scope R5 that STEPGEN uses. -/
structure Config where
  /-- `N_AXIS` -/
  nAxis : Nat
  /-- `N_SEG` -/
  nSeg : Nat
  /-- `MAX_AMASS_LEVEL` -/
  maxAmassLevel : Nat
  /-- `F_TIMER_STEPPER` in Hz -/
  fTimerStepper : Nat
  /-- `MAX_STEP_RATE_HZ`, `none` where it is undefined -/
  maxStepRateHz : Option Nat
  /-- `SPINDLE_PWM_OFF_VALUE` -/
  spindlePwmOff : Half
  /-- `DUAL_X_AXIS` -/
  dualX : Bool
  /-- `DUAL_Y_AXIS` -/
  dualY : Bool
  /-- `PROBE_POLL_POINT` -/
  probePollPoint : ProbePollPoint
  /-- `T_LAST_PULSE` -/
  lastPulse : LastPulseHold
deriving DecidableEq, Repr

/-- The reference configuration, the last column of the table of 00_scope R5. -/
def Config.reference : Config where
  nAxis := 3
  nSeg := 10
  maxAmassLevel := 3
  fTimerStepper := 24000000
  maxStepRateHz := none
  spindlePwmOff := 0
  dualX := false
  dualY := false
  probePollPoint := .afterC
  lastPulse := .currentCcr

/-- FREE VALUE (93 U5, log 2): the byte of the block pool at a host address that nothing has written since the
contents became unspecified for the `epoch`-th time (10_state R60). -/
opaque Config.freePoolByte (epoch address : Nat) : Byte

/-- FREE VALUE (93 U5, log 2): the byte of the segment ring at byte offset `8 * slot + j` that nothing has written
since the contents became unspecified for the `epoch`-th time (10_state R60). -/
opaque Config.freeRingByte (epoch address : Nat) : Byte

/-- FREE VALUE (93 U16, log 12, log 25): the level of output wire number `line` at clock `time` where no latch gives it
one: while the pins are high-impedance (42_pulse_reset_and_timer R223), and on a mirrored wire whose axis does not
exist. -/
opaque Config.floatingLevel (time line : Nat) : Bool

end Sys2Proof
end

