-- ==== Sys2Proof/Machine/Params.lean ====
section
/-! DEFINITION. What follows from the configuration record: derived parameters, the axes that exist, and which
configurations the spec rejects (00_scope R5 to R8). -/

namespace Sys2Proof

/-- `N_BLK = N_SEG - 1` (00_scope R5). -/
def Config.nBlk (c : Config) : Nat :=
  c.nSeg - 1

/-- `STEP_TIMER_MIN` (00_scope R6): integer division rounding down. -/
def Config.stepTimerMin (c : Config) : Nat :=
  match c.maxStepRateHz with
  | none => c.fTimerStepper / 60000
  | some r => c.fTimerStepper / r

/-- `T_WAKE` in timer clocks (00_scope R5, 70_reset_and_hazards R321). The spec states no rounding where
`F_TIMER_STEPPER` is no multiple of 100; rounding down to whole clocks is a DESIGN CHOICE (log 26). -/
def Config.tWake (c : Config) : Nat :=
  c.fTimerStepper / 100

/-- The Disable dwell in timer clocks: `ms` milliseconds (40_host_commands R139, 70_reset_and_hazards R322), rounded
down to whole clocks (log 7). -/
def Config.dwellClocks (c : Config) (ms : BitVec 8) : Nat :=
  ms.toNat * c.fTimerStepper / 1000

/-- Axis `i` exists: `i < N_AXIS`. -/
def Config.hasAxis (c : Config) (i : Axis) : Bool :=
  decide (i.val < c.nAxis)

/-- The existing axes in increasing order: the loop `for i in 0..N_AXIS-1` of 00_scope R13. -/
def Config.axes (c : Config) : List Axis :=
  [0, 1, 2, 3, 4, 5].filter fun i => c.hasAxis i

/-- The mask of the existing axes. -/
def Config.axisMask (c : Config) : AxisBits :=
  AxisBits.ofFn fun i => c.hasAxis i

/-- The defined bits of a pool entry's `FLG` word (30_encoding R102). -/
def Config.flgMask (c : Config) : Word :=
  c.axisMask.zeroExtend 32 ||| 0x100

/-- The legal ranges of 00_scope R5 with the rejections of R6 (`STEP_TIMER_MIN` in 4..65535), R7 (`N_SEG < 3`) and
R8 (`MAX_AMASS_LEVEL < 1`). -/
def Config.legal (c : Config) : Bool :=
  decide (1 ≤ c.nAxis ∧ c.nAxis ≤ 6) &&
  decide (3 ≤ c.nSeg ∧ c.nSeg ≤ 64) &&
  decide (1 ≤ c.maxAmassLevel ∧ c.maxAmassLevel ≤ 15) &&
  decide (1 ≤ c.fTimerStepper) &&
  decide (1 ≤ c.maxStepRateHz.getD 1) &&
  decide (4 ≤ c.stepTimerMin ∧ c.stepTimerMin ≤ 65535)

/-- The pulse-reset compare `ccr = (3 * arr) >> 2` (42_pulse_reset_and_timer R214); the product has 18 bits. -/
def compareOf (arr : Half) : Half :=
  BitVec.ofNat 16 ((3 * arr.toNat) >>> 2)

end Sys2Proof
end

