-- ==== Sys2Proof/Machine/State.lean ====
section
/-! DEFINITION. The state of STEPGEN as plain data, the reasons a step can stop, and the state after reset. -/

namespace Sys2Proof.Machine

/-- An externally visible event (00_scope R14). -/
inductive OutEvent where
  /-- `StepRise(i)`: line `STEP[i]` goes from its idle to its active level. -/
  | stepRise (i : Axis)
  /-- `StepFall(i)`: active to idle. -/
  | stepFall (i : Axis)
  /-- `DirSet(i, l)`: line `DIR[i]` changes to level `l`. -/
  | dirSet (i : Axis) (level : Bool)
  /-- `EnSet(l)`: the enable line is driven to `l`. -/
  | enSet (level : Bool)
  /-- `SpindleWrite(v)`: a value is written to the spindle port. -/
  | spindleWrite (v : Half)
  /-- `ProbePoll`: the probe strobe. -/
  | probePoll
  /-- `CycleStop`: the `CYCLE_STOP` flag is raised. -/
  | cycleStop
deriving DecidableEq, Repr

/-- An entry of the output trace: the event and the timer clock it falls on (log 7). -/
structure TraceEntry where
  time : Nat
  event : OutEvent
deriving DecidableEq, Repr

/-- The width of a host transaction, as far as the bus can express one (20_memory R71, R73; log 15). -/
inductive AccessWidth where
  | byte
  | half
  | word
  | doubleWord
deriving DecidableEq, Repr

/-- One transaction on the host port (20_memory R71). `data` is the write data, unused by a read. -/
structure HostTxn where
  we : Bool
  addr : BitVec 12
  data : Word
  width : AccessWidth
deriving DecidableEq, Repr

/-- What the outside does to the machine (42_pulse_reset_and_timer R225), one item per step (log 3). -/
inductive Input where
  /-- One clock of the step timer. -/
  | clk
  /-- One host transaction. -/
  | host (t : HostTxn)
  /-- Power-on reset (log 13). -/
  | powerOn
deriving DecidableEq, Repr

/-- ExecState, private to the Step Execution Engine (10_state R20 to R28). -/
@[ext]
structure ExecState where
  /-- `counter[i]` (R21) -/
  counter : AxisVec Word
  /-- `steps[i]` (R22) -/
  steps : AxisVec Word
  /-- `step_count` (R23) -/
  stepCount : Half
  /-- `exec_block_index` (R24) -/
  blockIndex : BitVec 8
  /-- `exec_block_valid` (R24) -/
  blockValid : Bool
  /-- `exec_seg_valid` (R25) -/
  segValid : Bool
  /-- `step_outbits`, logical (R26) -/
  stepOutbits : AxisBits
  /-- `dir_outbits`, physical (R27) -/
  dirOutbits : AxisBits
deriving DecidableEq, Repr

/-- The stored bits of register `FLAGS` (10_state R35). -/
structure FlagBits where
  /-- bit 0, `CYCLE_STOP` -/
  cycleStop : Bool
  /-- bit 1, `ERR_FULL` -/
  errFull : Bool
  /-- bit 2, `ERR_CMD` -/
  errCmd : Bool
  /-- bit 3, `ERR_BUS` -/
  errBus : Bool
  /-- bit 8, `FAULT_BADIDX` -/
  faultBadidx : Bool
deriving DecidableEq, Repr

/-- The settings registers (10_state R43 to R46), stored bits only. -/
structure Settings where
  /-- `SET_STEP_INV` (R43) -/
  stepInv : AxisBits
  /-- `SET_DIR_INV` (R44) -/
  dirInv : AxisBits
  /-- `SET_FLAGS` bit 0, `INVERT_ST_ENABLE` (R45) -/
  invertStEnable : Bool
  /-- `SET_FLAGS` bit 1, `LASER_MODE` (R45) -/
  laserMode : Bool
  /-- `SET_IDLE_LOCK`, milliseconds (R46) -/
  idleLock : BitVec 8
deriving DecidableEq, Repr

/-- `SYSCTL`, the system inputs the engine samples (10_state R47), stored bits only. -/
structure SysCtl where
  /-- bit 0, `HOMING` -/
  homing : Bool
  /-- bit 1, `PROBE_ACTIVE` -/
  probeActive : Bool
  /-- bits 8 and up, `HOMING_LOCK`: 1 = the axis may step during homing -/
  homingLock : AxisBits
deriving DecidableEq, Repr

/-- The step timer registers (10_state R49). -/
structure TimerRegs where
  tcnt : Half
  arr : Half
  ccr : Half
  run : Bool
deriving DecidableEq, Repr

/-- The output latches (10_state R50). -/
structure LineLatches where
  /-- levels of `STEP[i]` -/
  step : AxisBits
  /-- levels of `DIR[i]` -/
  dir : AxisBits
  /-- level of the enable line `EN` -/
  en : Bool
  /-- `drv_enabled` -/
  drvEnabled : Bool
  /-- `pins_driven` -/
  pinsDriven : Bool
deriving DecidableEq, Repr

/-- The machine. Field by field: INVENTORY.md, heading State. -/
@[ext]
structure State where
  /-- The configuration record (00_scope R5), the same for the whole run (log 1). -/
  cfg : Config
  exec : ExecState
  /-- next free slot (R31) -/
  head : BitVec 8
  /-- next slot to execute, the engine's program counter (R30) -/
  tail : BitVec 8
  flags : FlagBits
  /-- `sys_position[i]`, two's complement (R38) -/
  sysPosition : AxisVec Word
  /-- the block pool, by host byte address (R40) -/
  pool : Memory
  /-- the segment ring, slot `k` at bytes `8 * k` to `8 * k + 7` (R41, log 23) -/
  ring : Memory
  /-- MODEL's own (log 2): how often the contents of ring and pool became unspecified (R60) -/
  epoch : Nat
  settings : Settings
  sysctl : SysCtl
  /-- active mask `step_inv` (R48) -/
  stepInv : AxisBits
  /-- active mask `dir_inv` (R48) -/
  dirInv : AxisBits
  timer : TimerRegs
  lines : LineLatches
  /-- `spindle_pwm_out` (R51) -/
  spindlePwmOut : Half
  /-- MODEL's own (log 6): what the last host read returned (R137) -/
  hostResult : Word
  /-- MODEL's own (log 3): what the outside does next; when it is empty, a timer clock passes -/
  inputs : List Input
  /-- MODEL's own (log 7): timer clocks elapsed, for the trace only -/
  time : Nat
  /-- the output trace (R14), oldest first -/
  trace : List TraceEntry
deriving DecidableEq, Repr

/-- Why the machine stops. The spec's own faults and refusals are next states (60_exceptions R270 to R278). -/
inductive Fault where
  /-- Raised by `step` alone, in a state whose configuration record 00_scope R5 to R8 reject: the spec describes no
  such machine. Safe: a claim about a legal configuration never meets it (log 17). -/
  | configRejected
deriving DecidableEq, Repr

/-- Why an instruction has no meaning. -/
inductive Refusal where
  /-- Raised by `exec` for an instruction without a meaning; no arm of this model does. Safe. -/
  | notModelled (mnemonic : String)
deriving DecidableEq, Repr

/-- The timer registers after POR, INIT and RESET (10_state R49). -/
def TimerRegs.default (c : Config) : TimerRegs where
  tcnt := 0
  arr := BitVec.ofNat 16 c.stepTimerMin
  ccr := compareOf (BitVec.ofNat 16 c.stepTimerMin)
  run := false

/-- ExecState after POR and RESET (10_state R60). -/
def ExecState.zero : ExecState where
  counter := AxisVec.fill 0
  steps := AxisVec.fill 0
  stepCount := 0
  blockIndex := 0
  blockValid := false
  segValid := false
  stepOutbits := 0
  dirOutbits := 0

/-- The POR state of a configuration (10_state R60, 70_reset_and_hazards R300). -/
def State.powerOn (c : Config) (epoch : Nat) : State where
  cfg := c
  exec := ExecState.zero
  head := 0
  tail := 0
  flags := ⟨false, false, false, false, false⟩
  sysPosition := AxisVec.fill 0
  pool := []
  ring := []
  epoch := epoch
  settings := ⟨0, 0, false, false, 0⟩
  sysctl := ⟨false, false, 0⟩
  stepInv := 0
  dirInv := 0
  timer := TimerRegs.default c
  lines := ⟨0, 0, true, false, false⟩
  spindlePwmOut := c.spindlePwmOff
  hostResult := 0
  inputs := []
  time := 0
  trace := []

/-- The machine after power-on reset in the reference configuration. -/
def State.reset : State :=
  State.powerOn Config.reference 0

end Sys2Proof.Machine
end

