-- ==== Sys2Proof/Machine/Flags.lean ====
section
/-! DEFINITION. Register `FLAGS`: the causes, raising one, reading the word, clearing by a write of 1. -/

namespace Sys2Proof.Machine

/-- The causes of 60_exceptions R271. -/
inductive Cause where
  | cycleStop
  | errFull
  | errCmd
  | errBus
  | faultBadidx
deriving DecidableEq, Repr

/-- The code of a cause: its bit number in `FLAGS` (60_exceptions R271). -/
def Cause.code : Cause → Nat
  | .cycleStop => 0
  | .errFull => 1
  | .errCmd => 2
  | .errBus => 3
  | .faultBadidx => 8

/-- The bit of a cause. -/
def FlagBits.get (f : FlagBits) : Cause → Bool
  | .cycleStop => f.cycleStop
  | .errFull => f.errFull
  | .errCmd => f.errCmd
  | .errBus => f.errBus
  | .faultBadidx => f.faultBadidx

/-- Set the sticky bit of a cause (10_state R35). -/
def FlagBits.set (f : FlagBits) : Cause → FlagBits
  | .cycleStop => { f with cycleStop := true }
  | .errFull => { f with errFull := true }
  | .errCmd => { f with errCmd := true }
  | .errBus => { f with errBus := true }
  | .faultBadidx => { f with faultBadidx := true }

/-- No flag set. -/
def FlagBits.none : FlagBits :=
  ⟨false, false, false, false, false⟩

/-- A word with bit `k` equal to `b` and every other bit 0. -/
def bitAt (b : Bool) (k : Nat) : Word :=
  (BitVec.ofBool b).zeroExtend 32 <<< k

/-- The `FLAGS` word (10_state R35); bits not listed read 0. -/
def FlagBits.word (f : FlagBits) : Word :=
  bitAt f.cycleStop 0 ||| bitAt f.errFull 1 ||| bitAt f.errCmd 2 ||| bitAt f.errBus 3 ||| bitAt f.faultBadidx 8

/-- Write-one-to-clear on bits 3..0; bit 8 and the others ignore the write (10_state R35, 40_host_commands R138). -/
def FlagBits.clear (f : FlagBits) (d : Word) : FlagBits where
  cycleStop := f.cycleStop && !d.getLsbD 0
  errFull := f.errFull && !d.getLsbD 1
  errCmd := f.errCmd && !d.getLsbD 2
  errBus := f.errBus && !d.getLsbD 3
  faultBadidx := f.faultBadidx

/-- Raise a cause: set its flag, change nothing else. -/
def State.raise (c : Cause) (s : State) : State :=
  { s with flags := s.flags.set c }

end Sys2Proof.Machine
end

