-- ==== Sys2Proof/Machine/Operands.lean ====
section
/-! DEFINITION. What instructions read: ring predicates, ring slots, pool entries, register words, and the
arithmetic of the tracer. -/

namespace Sys2Proof.Machine

/-! ## Ring predicates -/

/-- An index advanced by one slot, modulo `N_SEG` (10_state R30, R32). -/
def nextIndex (c : Config) (k : BitVec 8) : BitVec 8 :=
  BitVec.ofNat 8 ((k.toNat + 1) % c.nSeg)

/-- `EMPTY := (head == tail)` (10_state R33, 20_memory R81). -/
def State.isEmpty (s : State) : Bool :=
  s.head == s.tail

/-- `FULL := (tail == next_head)` (10_state R33, 20_memory R82). -/
def State.isFull (s : State) : Bool :=
  s.tail == nextIndex s.cfg s.head

/-- `COUNT := (head - tail) mod N_SEG`, the number of live slots (10_state R33). -/
def State.count (s : State) : Nat :=
  (s.head.toNat + s.cfg.nSeg - s.tail.toNat) % s.cfg.nSeg

/-- Slot `k` is live: `k` is in the cyclic range `tail .. head-1` (00_scope R17). -/
def State.isLive (s : State) (k : Nat) : Bool :=
  decide (k < s.cfg.nSeg) && decide ((k + s.cfg.nSeg - s.tail.toNat) % s.cfg.nSeg < s.count)

/-! ## Ring slots -/

/-- The bits of `SEGW1` that are stored: all but 15..13 (30_encoding R100, R106). -/
def segw1Mask : Word :=
  0xFFFF1FFF

/-- The word at a byte offset of the ring; unwritten bytes are free values (93 U5). -/
def State.ringWord (s : State) (a : Nat) : Word :=
  s.ring.readWord (Config.freeRingByte s.epoch) a

/-- Word 0 of `SEG[k]`. -/
def State.segW0 (s : State) (k : BitVec 8) : Word :=
  s.ringWord (8 * k.toNat)

/-- Word 1 of `SEG[k]`; the reserved bits read 0. -/
def State.segW1 (s : State) (k : BitVec 8) : Word :=
  s.ringWord (8 * k.toNat + 4) &&& segw1Mask

/-- `SEG[k]` as one 64-bit value, `W1 ++ W0` (30_encoding R100). -/
def State.segWord (s : State) (k : BitVec 8) : SegWord :=
  s.segW1 k ++ s.segW0 k

/-- The segment in slot `k`. -/
def State.segment (s : State) (k : BitVec 8) : Segment :=
  decodeSegment (s.segWord k)

/-! ## Pool entries -/

/-- The host byte address of word `word` of `BLK[b]` (30_encoding R102). -/
def poolByteAddr (b word : Nat) : Nat :=
  0x100 + 0x20 * b + 4 * word

/-- The word at a host address of the pool; unwritten bytes are free values (93 U5). -/
def State.poolWord (s : State) (a : Nat) : Word :=
  s.pool.readWord (Config.freePoolByte s.epoch) a

/-- `BLK[b].step_event_count` (30_encoding R102). -/
def State.blkSec (s : State) (b : Nat) : Word :=
  s.poolWord (poolByteAddr b 0)

/-- `BLK[b].FLG`: the defined bits; the others read 0 (30_encoding R102, R106). -/
def State.blkFlg (s : State) (b : Nat) : Word :=
  s.poolWord (poolByteAddr b 1) &&& s.cfg.flgMask

/-- `BLK[b].direction_bits` (30_encoding R102). -/
def State.blkDirBits (s : State) (b : Nat) : AxisBits :=
  (s.blkFlg b).extractLsb' 0 6 &&& s.cfg.axisMask

/-- `BLK[b].is_pwm_rate_adjusted` (30_encoding R102). -/
def State.blkAdjusted (s : State) (b : Nat) : Bool :=
  (s.blkFlg b).getLsbD 8

/-- `BLK[b].steps[i]` (30_encoding R102). -/
def State.blkSteps (s : State) (b : Nat) (i : Nat) : Word :=
  s.poolWord (poolByteAddr b (2 + i))

/-! ## Register words (40_host_commands R137) -/

/-- `STATUS` (10_state R36). -/
def State.statusWord (s : State) : Word :=
  bitAt s.isEmpty 0 ||| bitAt s.isFull 1 ||| bitAt s.timer.run 2 ||| bitAt s.lines.drvEnabled 3 |||
    bitAt s.lines.pinsDriven 4 ||| bitAt s.flags.faultBadidx 5

/-- `SET_FLAGS` (10_state R45). -/
def State.setFlagsWord (s : State) : Word :=
  bitAt s.settings.invertStEnable 0 ||| bitAt s.settings.laserMode 1

/-- `SYSCTL` (10_state R47). -/
def State.sysctlWord (s : State) : Word :=
  bitAt s.sysctl.homing 0 ||| bitAt s.sysctl.probeActive 1 ||| s.sysctl.homingLock.zeroExtend 32 <<< 8

/-- `PINS` (10_state R50). -/
def State.pinsWord (s : State) : Word :=
  s.lines.step.zeroExtend 32 ||| s.lines.dir.zeroExtend 32 <<< 8 ||| bitAt s.lines.en 16 |||
    bitAt s.lines.pinsDriven 17

/-- `POS[i]`: the position as its two's-complement bit pattern (10_state R38); `none` where the axis does not exist
(20_memory R77). -/
def State.posWord (s : State) (i : Nat) : Option Word :=
  if h : i < 6 then
    if i < s.cfg.nAxis then some (s.sysPosition.get ⟨i, h⟩) else none
  else none

/-! ## Arithmetic of the tracer -/

/-- The result of one accumulator update. -/
structure Accum where
  acc : Word
  step : Bool
deriving DecidableEq, Repr

/-- One accumulator, one tick (41_see_tick R185, R191, R193): add modulo 2^32, compare unsigned and strictly,
subtract modulo 2^32 on a step. -/
def bresenham (counter increment sec : Word) : Accum :=
  let c := counter + increment
  if sec.toNat < c.toNat then ⟨c - sec, true⟩ else ⟨c, false⟩

/-- The timer reload of a segment: `max(cycles_per_tick, STEP_TIMER_MIN)` (41_see_tick R179). -/
def clampReload (c : Config) (cyclesPerTick : Half) : Half :=
  BitVec.ofNat 16 (max cyclesPerTick.toNat c.stepTimerMin)

/-- One position unit, down for direction bit 1 and up for 0, modulo 2^32 (41_see_tick R186, R194). -/
def movePosition (negative : Bool) (p : Word) : Word :=
  if negative then p - 1 else p + 1

/-- The block is new when none is bound or the index differs (41_see_tick R180). -/
def isNewBlock (e : ExecState) (f : Segment) : Bool :=
  !e.blockValid || f.stBlockIndex != e.blockIndex

end Sys2Proof.Machine
end

