-- ==== Sys2Proof/Machine/Ops.lean ====
section
/-! DEFINITION. The shared operations: output events, line drives, the timer, the spindle port, host results, the
writes of ring and pool, the Disable sequence, refusing, taking the engine fault and clearing it. -/

namespace Sys2Proof.Machine

/-! ## Trace and time -/

/-- Append events to the output trace, stamped with the current clock (00_scope R13, R14). -/
def State.emitAll (es : List OutEvent) (s : State) : State :=
  { s with trace := s.trace ++ es.map fun e => ⟨s.time, e⟩ }

/-- `emit E` (00_scope R13). -/
def State.emit (e : OutEvent) (s : State) : State :=
  s.emitAll [e]

/-- A duration inside an atomic step: only the trace's time stamps see it (92 D41, log 7). -/
def State.wait (clocks : Nat) (s : State) : State :=
  { s with time := s.time + clocks }

/-- `T_LAST_PULSE` in timer clocks (41_see_tick R176). -/
def State.lastPulseClocks (s : State) : Nat :=
  match s.cfg.lastPulse with
  | .currentCcr => s.timer.ccr.toNat
  | .clocks n => n

/-! ## Lines (42_pulse_reset_and_timer R211, R212, R219) -/

/-- The event of driving `STEP[i]` to a level: none when the level does not change, a fall when it is the idle level
`step_inv[i]`, else a rise (00_scope R14, 42_pulse_reset_and_timer R211). -/
def State.stepEvent (s : State) (i : Axis) (level : Bool) : List OutEvent :=
  if s.lines.step.bit i = level then []
  else if level = s.stepInv.bit i then [.stepFall i]
  else [.stepRise i]

/-- The event of driving `DIR[i]` to a level: none when the level does not change (00_scope R14). -/
def State.dirEvent (s : State) (i : Axis) (level : Bool) : List OutEvent :=
  if s.lines.dir.bit i = level then [] else [.dirSet i level]

/-- Drive every STEP line to its bit of `target`, in increasing axis order. -/
def State.driveSteps (target : AxisBits) (s : State) : State :=
  { s.emitAll (s.cfg.axes.flatMap fun i => s.stepEvent i (target.bit i)) with
    lines := { s.lines with step := target &&& s.cfg.axisMask } }

/-- Drive every DIR line to its bit of `target`, in increasing axis order. -/
def State.driveDirs (target : AxisBits) (s : State) : State :=
  { s.emitAll (s.cfg.axes.flatMap fun i => s.dirEvent i (target.bit i)) with
    lines := { s.lines with dir := target &&& s.cfg.axisMask } }

/-- Drive every STEP line to its idle level `step_inv[i]` (42_pulse_reset_and_timer R210, R211). -/
def State.idleSteps (s : State) : State :=
  s.driveSteps s.stepInv

/-- Drive the STEP lines whose bit is set in `bits` to their active level `1 ^ step_inv[i]`; the others keep their
level (41_see_tick R171). -/
def State.raiseSteps (bits : AxisBits) (s : State) : State :=
  s.driveSteps ((s.lines.step &&& ~~~bits) ||| (~~~s.stepInv &&& bits))

/-- Drive every STEP and DIR line low, axis by axis, STEP before DIR (40_host_commands R133, log 18). -/
def State.allLinesLow (s : State) : State :=
  { s.emitAll (s.cfg.axes.flatMap fun i => s.stepEvent i false ++ s.dirEvent i false) with
    lines := { s.lines with step := 0, dir := 0 } }

/-- Set the logical enable state and drive the enable line, `EN = dis ^ INVERT_ST_ENABLE`
(42_pulse_reset_and_timer R219); emits `EnSet` whether or not the level changes (00_scope R14). -/
def State.driveEnable (dis : Bool) (s : State) : State :=
  { s.emit (.enSet (dis ^^ s.settings.invertStEnable)) with
    lines := { s.lines with en := dis ^^ s.settings.invertStEnable, drvEnabled := !dis } }

/-! ## Timer, spindle, masks -/

/-- `run <- 0` (42_pulse_reset_and_timer R224): the count and the reloads stay. -/
def State.stopTimer (s : State) : State :=
  { s with timer := { s.timer with run := false } }

/-- `run <- 1` from 0, with `tcnt <- 0`; nothing when the timer runs (40_host_commands R131). -/
def State.startTimer (s : State) : State :=
  if s.timer.run then s else { s with timer := { s.timer with tcnt := 0, run := true } }

/-- The timer's defaults, stopped (10_state R49). -/
def State.resetTimer (s : State) : State :=
  { s with timer := TimerRegs.default s.cfg }

/-- Program the reload and the compare (41_see_tick R179, 42_pulse_reset_and_timer R214). -/
def State.programTimer (arr : Half) (s : State) : State :=
  { s with timer := { s.timer with arr := arr, ccr := compareOf arr } }

/-- A write to the spindle port (42_pulse_reset_and_timer R221). -/
def State.spindleWrite (v : Half) (s : State) : State :=
  { s.emit (.spindleWrite v) with spindlePwmOut := v }

/-- Copy the invert settings into the active masks (10_state R48, 40_host_commands R134). -/
def State.genMasks (s : State) : State :=
  { s with stepInv := s.settings.stepInv, dirInv := s.settings.dirInv }

/-! ## Host port -/

/-- A read returns `v` (40_host_commands R137). -/
def State.hostReturn (v : Word) (s : State) : State :=
  { s with hostResult := v }

/-- `refuse(flag)`: set the sticky flag and change nothing else (00_scope R13, 60_exceptions R274). -/
def State.refuse (c : Cause) (s : State) : State :=
  s.raise c

/-- A refused access: `ERR_BUS`, a refused read returns 0 (20_memory R73, R77). -/
def State.busError (we : Bool) (s : State) : State :=
  if we then s.refuse .errBus else (s.refuse .errBus).hostReturn 0

/-- Pool entry `b` exists: `b < N_BLK` (20_memory R77). -/
def State.hasBlock (s : State) (b : BitVec 7) : Bool :=
  decide (b.toNat < s.cfg.nBlk)

/-- Word `word` of a pool entry exists: `SEC`, `FLG`, or `STEPS[i]` with `i < N_AXIS` (20_memory R77). -/
def State.hasPoolWord (s : State) (b : BitVec 7) (word : Nat) : Bool :=
  s.hasBlock b && decide (word < 2 + s.cfg.nAxis)

/-- What a read of word `word` of pool entry `b` returns where it exists. -/
def State.poolRead (s : State) (b : BitVec 7) (word : Nat) : Word :=
  if word = 1 then s.blkFlg b.toNat else s.poolWord (poolByteAddr b.toNat word)

/-- A host read of a pool word (40_host_commands R137, 20_memory R77). -/
def State.ldwPool (b : BitVec 7) (word : Nat) (s : State) : State :=
  if s.hasPoolWord b word then s.hostReturn (s.poolRead b word) else s.busError false

/-- Store a word of the pool (20_memory R89: it takes effect at once). -/
def State.setPoolWord (b : BitVec 7) (word : Nat) (d : Word) (s : State) : State :=
  { s with pool := s.pool.writeWord (poolByteAddr b.toNat word) (if word = 1 then d &&& s.cfg.flgMask else d) }

/-- A host write of a pool word (40_host_commands R138, 20_memory R77); `FLG` keeps its defined bits only. -/
def State.stwPool (b : BitVec 7) (word : Nat) (d : Word) (s : State) : State :=
  if s.hasPoolWord b word then s.setPoolWord b word d else s.busError true

/-- Store word 0 of `SEG[head]` (10_state R54). -/
def State.setSegW0 (d : Word) (s : State) : State :=
  { s with ring := s.ring.writeWord (8 * s.head.toNat) d }

/-- Store word 1 of `SEG[head]` without its reserved bits (10_state R54, 30_encoding R106). -/
def State.setSegW1 (d : Word) (s : State) : State :=
  { s with ring := s.ring.writeWord (8 * s.head.toNat + 4) (d &&& segw1Mask) }

/-- The contents of every slot and every pool entry become unspecified (10_state R60). -/
def State.forgetMemories (s : State) : State :=
  { s with pool := [], ring := [], epoch := s.epoch + 1 }

/-! ## The Disable sequence -/

/-- The idle-lock setting `0xFF` keeps the drivers enabled; homing suppresses the dwell (40_host_commands R139). -/
def State.dwells (s : State) : Bool :=
  s.settings.idleLock != 0xFF && !s.sysctl.homing

/-- `DisableSeq(ovr)` (40_host_commands R139): stop the timer, idle the STEP lines, dwell where the rule says so, set
the enable line. -/
def State.disableSeq (ovr : Bool) (s : State) : State :=
  let stopped := s.stopTimer.idleSteps
  let dwelt := if s.dwells then stopped.wait (s.cfg.dwellClocks s.settings.idleLock) else stopped
  dwelt.driveEnable (s.dwells || ovr)

/-! ## The engine fault -/

/-- `fault(FAULT_BADIDX)` (60_exceptions R276): hold, stop the timer, idle the STEP lines, set the flag. Nothing is
saved and control goes nowhere: the engine is halted with `run = 0` (R277). -/
def State.takeFault (s : State) : State :=
  ((s.wait s.lastPulseClocks).stopTimer.idleSteps).raise .faultBadidx

/-- The return (60_exceptions R278): a host write of 1 clears the refusal flags and `CYCLE_STOP`; `FAULT_BADIDX`
stays. -/
def State.clearFlags (d : Word) (s : State) : State :=
  { s with flags := s.flags.clear d }

end Sys2Proof.Machine
end

