-- ==== Sys2Proof/Machine/Commands.lean ====
section
/-! DEFINITION. The six host commands and `STW.CMD` (40_host_commands R130 to R136, R139). -/

namespace Sys2Proof.Machine

/-- `INIT` (R130): the lines become outputs, the timer is configured and stopped. -/
def initEffect (s : State) : State :=
  { s.resetTimer with lines := { s.lines with pinsDriven := true } }

/-- `WAKE` (R131): refused under a fault; else enable the drivers, wait, start the timer. While the timer runs the
wait is not stamped, since the clocks that fall into it come after the command (R131 (d), log 16). -/
def wakeEffect (s : State) : State :=
  if s.flags.faultBadidx then s.refuse .errCmd
  else
    let enabled := s.driveEnable false
    if s.timer.run then enabled else (enabled.wait s.cfg.tWake).startTimer

/-- `DISABLE ovr` (R132): the Disable sequence. -/
def disableEffect (ovr : Bool) (s : State) : State :=
  s.disableSeq ovr

/-- `RESET` (R133): zero all state, regenerate the masks, drive all STEP and DIR lines low, in that order; the
contents of ring and pool become unspecified. -/
def resetEffect (s : State) : State :=
  let zeroed : State := { s.resetTimer with exec := ExecState.zero, head := 0, tail := 0, flags := FlagBits.none }
  zeroed.forgetMemories.genMasks.allLinesLow

/-- `GENMASK` (R134). -/
def genmaskEffect (s : State) : State :=
  s.genMasks

/-- `PUBLISH` (R135): refused when full, else the slot at `head` becomes live. -/
def publishEffect (s : State) : State :=
  if s.isFull then s.refuse .errFull else { s with head := nextIndex s.cfg s.head }

/-- The effect of a command. -/
def commandEffect : Command → State → State
  | .init => initEffect
  | .wake => wakeEffect
  | .disable ovr => disableEffect ovr
  | .reset => resetEffect
  | .genmask => genmaskEffect
  | .publish => publishEffect

/-- A write to `CMD` (R136, R138): the command the word encodes, or `refuse(ERR_CMD)`. -/
def cmdWriteEffect (d : Word) (s : State) : State :=
  match decodeCommand d with
  | some c => commandEffect c s
  | none => s.refuse .errCmd

/-- Meaning of `INIT`. -/
def execInit (s : State) : Host.Outcome State Fault Refusal :=
  .next (initEffect s)

/-- Meaning of `WAKE`. -/
def execWake (s : State) : Host.Outcome State Fault Refusal :=
  .next (wakeEffect s)

/-- Meaning of `DISABLE`. -/
def execDisable (ovr : Bool) (s : State) : Host.Outcome State Fault Refusal :=
  .next (disableEffect ovr s)

/-- Meaning of `RESET`. -/
def execReset (s : State) : Host.Outcome State Fault Refusal :=
  .next (resetEffect s)

/-- Meaning of `GENMASK`. -/
def execGenmask (s : State) : Host.Outcome State Fault Refusal :=
  .next (genmaskEffect s)

/-- Meaning of `PUBLISH`. -/
def execPublish (s : State) : Host.Outcome State Fault Refusal :=
  .next (publishEffect s)

/-- Meaning of `STW.CMD`. -/
def execStwCmd (d : Word) (s : State) : Host.Outcome State Fault Refusal :=
  .next (cmdWriteEffect d s)

end Sys2Proof.Machine
end

