-- ==== Sys2Proof/Machine/Engine.lean ====
section
/-! DEFINITION. The Step Execution Engine: the phases of the `TICK` handler, the execution of a segment, and
`PRESET` (41_see_tick R170 to R190, 42_pulse_reset_and_timer R210). -/

namespace Sys2Proof.Machine

/-! ## Phase A -/

/-- Phase A: raise the lines decided at the previous tick (R171), then consume the bits (R172). -/
def State.phaseA (s : State) : State :=
  let raised := s.raiseSteps s.exec.stepOutbits
  { raised with exec := { raised.exec with stepOutbits := 0 } }

/-! ## Phase B -/

/-- Bind the block of a segment (R181): remember its index, start every accumulator at half the event count. -/
def State.bindBlock (b : BitVec 8) (s : State) : State :=
  let half := s.blkSec b.toNat >>> 1
  { s with exec := { s.exec with
      blockIndex := b
      blockValid := true
      counter := AxisVec.ofFn fun i => if s.cfg.hasAxis i then half else s.exec.counter.get i } }

/-- Direction bits and lines of the bound block (R182). -/
def State.setDirections (s : State) : State :=
  let out := s.blkDirBits s.exec.blockIndex.toNat ^^^ s.dirInv
  let set : State := { s with exec := { s.exec with dirOutbits := out } }
  set.driveDirs out

/-- Bind and turn the lines when the block is new (R180 to R182). -/
def State.bindIfNew (f : Segment) (s : State) : State :=
  if isNewBlock s.exec f then (s.bindBlock f.stBlockIndex).setDirections else s

/-- The increments of the segment (R183): the bound block's counts shifted right by the AMASS level. -/
def State.loadIncrements (f : Segment) (s : State) : State :=
  { s with exec := { s.exec with
      steps := AxisVec.ofFn fun i =>
        if s.cfg.hasAxis i then s.blkSteps s.exec.blockIndex.toNat i.val >>> f.amassLevel.toNat
        else s.exec.steps.get i } }

/-- Bind the segment and load its tick count (R177, R179). -/
def State.bindSegment (f : Segment) (s : State) : State :=
  { s with exec := { s.exec with segValid := true, stepCount := f.nStep } }

/-- Load a segment whose block index is in range: R177, R179 to R184 in that order. -/
def State.loadSegment (f : Segment) (s : State) : State :=
  ((((s.bindSegment f).programTimer (clampReload s.cfg f.cyclesPerTick)).bindIfNew f).loadIncrements f).spindleWrite
    f.spindlePwm

/-! ## Phase C and the closing actions -/

/-- The update of axis `i` in this tick (R185), with the event count read through the pool. -/
def State.axisUpdate (s : State) (i : Axis) : Accum :=
  bresenham (s.exec.counter.get i) (s.exec.steps.get i) (s.blkSec s.exec.blockIndex.toNat)

/-- Axis `i` exists and steps in this tick. -/
def State.axisSteps (s : State) (i : Axis) : Bool :=
  s.cfg.hasAxis i && (s.axisUpdate i).step

/-- Phase C (R185, R186): every accumulator, the step bits, the positions. -/
def State.phaseC (f : Segment) (s : State) : State :=
  let dirs := s.blkDirBits s.exec.blockIndex.toNat
  { s with
    exec := { s.exec with
      counter := AxisVec.ofFn fun i => if s.cfg.hasAxis i then (s.axisUpdate i).acc else s.exec.counter.get i
      stepOutbits := s.exec.stepOutbits ||| AxisBits.ofFn fun i => s.axisSteps i }
    sysPosition := AxisVec.ofFn fun i =>
      if s.axisSteps i && !f.backlashMotion then movePosition (dirs.bit i) (s.sysPosition.get i)
      else s.sysPosition.get i }

/-- Homing lock (R187): during homing the pulses of locked axes are withheld. -/
def State.homingMask (s : State) : State :=
  if s.sysctl.homing then
    { s with exec := { s.exec with stepOutbits := s.exec.stepOutbits &&& s.sysctl.homingLock } }
  else s

/-- The probe strobe at point `p` (R188): issued where the configuration puts it, while the probe is active. -/
def State.probe (p : ProbePollPoint) (s : State) : State :=
  if s.sysctl.probeActive && s.cfg.probePollPoint == p then s.emit .probePoll else s

/-- Count down and retire (R189). -/
def State.countDown (s : State) : State :=
  let left := s.exec.stepCount - 1
  if left = 0 then
    { s with exec := { s.exec with stepCount := left, segValid := false }, tail := nextIndex s.cfg s.tail }
  else { s with exec := { s.exec with stepCount := left } }

/-- One tick of a bound segment after Phase B: R185 to R189. -/
def State.runSegment (f : Segment) (s : State) : State :=
  ((((s.probe .beforeC).phaseC f).homingMask).probe .afterC).countDown

/-- One tick with `f` in slot `tail`: load it when none is bound (R173, R178), then run it. -/
def State.segmentTick (f : Segment) (s : State) : State :=
  let a := s.phaseA
  if s.exec.segValid then a.runSegment f
  else if s.cfg.nBlk ≤ f.stBlockIndex.toNat then a.takeFault
  else (a.loadSegment f).runSegment f

/-! ## The ring-empty path -/

/-- The last block was rate-adjusted: one is bound and its flag is set (R174). -/
def State.lastBlockAdjusted (s : State) : Bool :=
  s.exec.blockValid && s.blkAdjusted s.exec.blockIndex.toNat

/-- The ring-empty shutdown (R174), after Phase A. -/
def State.shutdown (s : State) : State :=
  let off := (s.wait s.lastPulseClocks).disableSeq false
  let spun := if s.lastBlockAdjusted then off.spindleWrite s.cfg.spindlePwmOff else off
  (spun.raise .cycleStop).emit .cycleStop

/-- The engine has a segment to execute: one is bound, or the ring is not empty (R173). -/
def State.hasSegment (s : State) : Bool :=
  s.exec.segValid || !s.isEmpty

/-- The `TICK` handler (R170). -/
def State.tickHandler (s : State) : State :=
  if s.hasSegment then s.segmentTick (s.segment s.tail) else s.phaseA.shutdown

/-! ## Meanings -/

/-- Meaning of `SEG` (R190): one tick of the segment (log 8). -/
def execSeg (f : Segment) (s : State) : Host.Outcome State Fault Refusal :=
  .next (s.segmentTick f)

/-- Meaning of `TICK` (R170). -/
def execTick (s : State) : Host.Outcome State Fault Refusal :=
  .next s.tickHandler

/-- Meaning of `PRESET` (42_pulse_reset_and_timer R210). -/
def execPreset (s : State) : Host.Outcome State Fault Refusal :=
  .next s.idleSteps

end Sys2Proof.Machine
end

