-- ==== Sys2Proof/Machine/HostAccess.lean ====
section
/-! DEFINITION. The host reads and writes of registers and pool words (40_host_commands R137, R138). Every access
completes: where the register does not exist in the configuration it is refused with `ERR_BUS`. -/

namespace Sys2Proof.Machine

/-! ## Reads of scalar registers -/

/-- Meaning of `LDW.STATUS` (10_state R36). -/
def execLdwStatus (s : State) : Host.Outcome State Fault Refusal :=
  .next (s.hostReturn s.statusWord)

/-- Meaning of `LDW.FLAGS` (10_state R35). -/
def execLdwFlags (s : State) : Host.Outcome State Fault Refusal :=
  .next (s.hostReturn s.flags.word)

/-- Meaning of `LDW.HEAD` (10_state R53). -/
def execLdwHead (s : State) : Host.Outcome State Fault Refusal :=
  .next (s.hostReturn (s.head.zeroExtend 32))

/-- Meaning of `LDW.TAIL` (10_state R53). -/
def execLdwTail (s : State) : Host.Outcome State Fault Refusal :=
  .next (s.hostReturn (s.tail.zeroExtend 32))

/-- Meaning of `LDW.SET_STEP_INV` (10_state R43). -/
def execLdwSetStepInv (s : State) : Host.Outcome State Fault Refusal :=
  .next (s.hostReturn (s.settings.stepInv.zeroExtend 32))

/-- Meaning of `LDW.SET_DIR_INV` (10_state R44). -/
def execLdwSetDirInv (s : State) : Host.Outcome State Fault Refusal :=
  .next (s.hostReturn (s.settings.dirInv.zeroExtend 32))

/-- Meaning of `LDW.SET_FLAGS` (10_state R45). -/
def execLdwSetFlags (s : State) : Host.Outcome State Fault Refusal :=
  .next (s.hostReturn s.setFlagsWord)

/-- Meaning of `LDW.SET_IDLE_LOCK` (10_state R46). -/
def execLdwSetIdleLock (s : State) : Host.Outcome State Fault Refusal :=
  .next (s.hostReturn (s.settings.idleLock.zeroExtend 32))

/-- Meaning of `LDW.SYSCTL` (10_state R47). -/
def execLdwSysctl (s : State) : Host.Outcome State Fault Refusal :=
  .next (s.hostReturn s.sysctlWord)

/-- Meaning of `LDW.SEGW0` (10_state R54). -/
def execLdwSegw0 (s : State) : Host.Outcome State Fault Refusal :=
  .next (s.hostReturn (s.segW0 s.head))

/-- Meaning of `LDW.SEGW1` (10_state R54). -/
def execLdwSegw1 (s : State) : Host.Outcome State Fault Refusal :=
  .next (s.hostReturn (s.segW1 s.head))

/-- Meaning of `LDW.STEP_INV` (10_state R48). -/
def execLdwStepInv (s : State) : Host.Outcome State Fault Refusal :=
  .next (s.hostReturn (s.stepInv.zeroExtend 32))

/-- Meaning of `LDW.DIR_INV` (10_state R48). -/
def execLdwDirInv (s : State) : Host.Outcome State Fault Refusal :=
  .next (s.hostReturn (s.dirInv.zeroExtend 32))

/-- Meaning of `LDW.PINS` (10_state R50). -/
def execLdwPins (s : State) : Host.Outcome State Fault Refusal :=
  .next (s.hostReturn s.pinsWord)

/-- Meaning of `LDW.SPINDLE` (10_state R51). -/
def execLdwSpindle (s : State) : Host.Outcome State Fault Refusal :=
  .next (s.hostReturn (s.spindlePwmOut.zeroExtend 32))

/-- Meaning of `LDW.TIM_ARR` (10_state R49). -/
def execLdwTimArr (s : State) : Host.Outcome State Fault Refusal :=
  .next (s.hostReturn (s.timer.arr.zeroExtend 32))

/-- Meaning of `LDW.TIM_CCR` (10_state R49). -/
def execLdwTimCcr (s : State) : Host.Outcome State Fault Refusal :=
  .next (s.hostReturn (s.timer.ccr.zeroExtend 32))

/-- Meaning of `LDW.TIM_CNT` (10_state R49). -/
def execLdwTimCnt (s : State) : Host.Outcome State Fault Refusal :=
  .next (s.hostReturn (s.timer.tcnt.zeroExtend 32))

/-! ## Writes of scalar registers -/

/-- Meaning of `STW.FLAGS` (10_state R35): write-one-to-clear on bits 3..0. -/
def execStwFlags (d : Word) (s : State) : Host.Outcome State Fault Refusal :=
  .next (s.clearFlags d)

/-- Meaning of `STW.SET_STEP_INV` (10_state R43): bits of existing axes are stored. -/
def execStwSetStepInv (d : Word) (s : State) : Host.Outcome State Fault Refusal :=
  .next { s with settings := { s.settings with stepInv := d.extractLsb' 0 6 &&& s.cfg.axisMask } }

/-- Meaning of `STW.SET_DIR_INV` (10_state R44): bits of existing axes are stored. -/
def execStwSetDirInv (d : Word) (s : State) : Host.Outcome State Fault Refusal :=
  .next { s with settings := { s.settings with dirInv := d.extractLsb' 0 6 &&& s.cfg.axisMask } }

/-- Meaning of `STW.SET_FLAGS` (10_state R45): bits 0 and 1 are stored. -/
def execStwSetFlags (d : Word) (s : State) : Host.Outcome State Fault Refusal :=
  .next { s with settings := { s.settings with invertStEnable := d.getLsbD 0, laserMode := d.getLsbD 1 } }

/-- Meaning of `STW.SET_IDLE_LOCK` (10_state R46): bits 7..0 are stored. -/
def execStwSetIdleLock (d : Word) (s : State) : Host.Outcome State Fault Refusal :=
  .next { s with settings := { s.settings with idleLock := d.extractLsb' 0 8 } }

/-- Meaning of `STW.SYSCTL` (10_state R47): bits 0, 1 and `8+N_AXIS-1..8` are stored. -/
def execStwSysctl (d : Word) (s : State) : Host.Outcome State Fault Refusal :=
  .next { s with sysctl := ⟨d.getLsbD 0, d.getLsbD 1, d.extractLsb' 8 6 &&& s.cfg.axisMask⟩ }

/-- Meaning of `STW.SEGW0` (10_state R54). -/
def execStwSegw0 (d : Word) (s : State) : Host.Outcome State Fault Refusal :=
  .next (s.setSegW0 d)

/-- Meaning of `STW.SEGW1` (10_state R54). -/
def execStwSegw1 (d : Word) (s : State) : Host.Outcome State Fault Refusal :=
  .next (s.setSegW1 d)

/-! ## The array registers: index constraints as in 30_encoding R105, 20_memory R77 -/

/-- Meaning of `LDW.POS[i]` (10_state R38); unmapped for `i >= N_AXIS` (20_memory R77). -/
def execLdwPos (i : BitVec 3) (s : State) : Host.Outcome State Fault Refusal :=
  match s.posWord i.toNat with
  | some v => .next (s.hostReturn v)
  | none => .next (s.busError false)

/-- Meaning of `LDW.BLK[b].SEC` (30_encoding R102). -/
def execLdwBlkSec (b : BitVec 7) (s : State) : Host.Outcome State Fault Refusal :=
  .next (s.ldwPool b 0)

/-- Meaning of `STW.BLK[b].SEC` (30_encoding R102). -/
def execStwBlkSec (b : BitVec 7) (d : Word) (s : State) : Host.Outcome State Fault Refusal :=
  .next (s.stwPool b 0 d)

/-- Meaning of `LDW.BLK[b].FLG` (30_encoding R102). -/
def execLdwBlkFlg (b : BitVec 7) (s : State) : Host.Outcome State Fault Refusal :=
  .next (s.ldwPool b 1)

/-- Meaning of `STW.BLK[b].FLG` (30_encoding R102). -/
def execStwBlkFlg (b : BitVec 7) (d : Word) (s : State) : Host.Outcome State Fault Refusal :=
  .next (s.stwPool b 1 d)

/-- Meaning of `LDW.BLK[b].STEPS[0]` (30_encoding R102). -/
def execLdwBlkSteps0 (b : BitVec 7) (s : State) : Host.Outcome State Fault Refusal :=
  .next (s.ldwPool b 2)

/-- Meaning of `STW.BLK[b].STEPS[0]` (30_encoding R102). -/
def execStwBlkSteps0 (b : BitVec 7) (d : Word) (s : State) : Host.Outcome State Fault Refusal :=
  .next (s.stwPool b 2 d)

/-- Meaning of `LDW.BLK[b].STEPS[1]` (30_encoding R102). -/
def execLdwBlkSteps1 (b : BitVec 7) (s : State) : Host.Outcome State Fault Refusal :=
  .next (s.ldwPool b 3)

/-- Meaning of `STW.BLK[b].STEPS[1]` (30_encoding R102). -/
def execStwBlkSteps1 (b : BitVec 7) (d : Word) (s : State) : Host.Outcome State Fault Refusal :=
  .next (s.stwPool b 3 d)

/-- Meaning of `LDW.BLK[b].STEPS[2]` (30_encoding R102). -/
def execLdwBlkSteps2 (b : BitVec 7) (s : State) : Host.Outcome State Fault Refusal :=
  .next (s.ldwPool b 4)

/-- Meaning of `STW.BLK[b].STEPS[2]` (30_encoding R102). -/
def execStwBlkSteps2 (b : BitVec 7) (d : Word) (s : State) : Host.Outcome State Fault Refusal :=
  .next (s.stwPool b 4 d)

/-- Meaning of `LDW.BLK[b].STEPS[3]` (30_encoding R102). -/
def execLdwBlkSteps3 (b : BitVec 7) (s : State) : Host.Outcome State Fault Refusal :=
  .next (s.ldwPool b 5)

/-- Meaning of `STW.BLK[b].STEPS[3]` (30_encoding R102). -/
def execStwBlkSteps3 (b : BitVec 7) (d : Word) (s : State) : Host.Outcome State Fault Refusal :=
  .next (s.stwPool b 5 d)

/-- Meaning of `LDW.BLK[b].STEPS[4]` (30_encoding R102). -/
def execLdwBlkSteps4 (b : BitVec 7) (s : State) : Host.Outcome State Fault Refusal :=
  .next (s.ldwPool b 6)

/-- Meaning of `STW.BLK[b].STEPS[4]` (30_encoding R102). -/
def execStwBlkSteps4 (b : BitVec 7) (d : Word) (s : State) : Host.Outcome State Fault Refusal :=
  .next (s.stwPool b 6 d)

/-- Meaning of `LDW.BLK[b].STEPS[5]` (30_encoding R102). -/
def execLdwBlkSteps5 (b : BitVec 7) (s : State) : Host.Outcome State Fault Refusal :=
  .next (s.ldwPool b 7)

/-- Meaning of `STW.BLK[b].STEPS[5]` (30_encoding R102). -/
def execStwBlkSteps5 (b : BitVec 7) (d : Word) (s : State) : Host.Outcome State Fault Refusal :=
  .next (s.stwPool b 7 d)

end Sys2Proof.Machine
end

