-- ==== Sys2Proof/Machine/Dispatch.lean ====
section
/-! DEFINITION. One arm per instruction, each one direct call of its meaning. -/

namespace Sys2Proof.Machine

def exec (i : Instr) (s : State) : Host.Outcome State Fault Refusal :=
  match i with
  | .seg f => Sys2Proof.Machine.execSeg f s
  | .init => Sys2Proof.Machine.execInit s
  | .wake => Sys2Proof.Machine.execWake s
  | .disable ovr => Sys2Proof.Machine.execDisable ovr s
  | .reset => Sys2Proof.Machine.execReset s
  | .genmask => Sys2Proof.Machine.execGenmask s
  | .publish => Sys2Proof.Machine.execPublish s
  | .stwCmd d => Sys2Proof.Machine.execStwCmd d s
  | .ldwStatus => Sys2Proof.Machine.execLdwStatus s
  | .ldwFlags => Sys2Proof.Machine.execLdwFlags s
  | .stwFlags d => Sys2Proof.Machine.execStwFlags d s
  | .ldwHead => Sys2Proof.Machine.execLdwHead s
  | .ldwTail => Sys2Proof.Machine.execLdwTail s
  | .ldwSetStepInv => Sys2Proof.Machine.execLdwSetStepInv s
  | .stwSetStepInv d => Sys2Proof.Machine.execStwSetStepInv d s
  | .ldwSetDirInv => Sys2Proof.Machine.execLdwSetDirInv s
  | .stwSetDirInv d => Sys2Proof.Machine.execStwSetDirInv d s
  | .ldwSetFlags => Sys2Proof.Machine.execLdwSetFlags s
  | .stwSetFlags d => Sys2Proof.Machine.execStwSetFlags d s
  | .ldwSetIdleLock => Sys2Proof.Machine.execLdwSetIdleLock s
  | .stwSetIdleLock d => Sys2Proof.Machine.execStwSetIdleLock d s
  | .ldwSysctl => Sys2Proof.Machine.execLdwSysctl s
  | .stwSysctl d => Sys2Proof.Machine.execStwSysctl d s
  | .ldwSegw0 => Sys2Proof.Machine.execLdwSegw0 s
  | .stwSegw0 d => Sys2Proof.Machine.execStwSegw0 d s
  | .ldwSegw1 => Sys2Proof.Machine.execLdwSegw1 s
  | .stwSegw1 d => Sys2Proof.Machine.execStwSegw1 d s
  | .ldwStepInv => Sys2Proof.Machine.execLdwStepInv s
  | .ldwDirInv => Sys2Proof.Machine.execLdwDirInv s
  | .ldwPins => Sys2Proof.Machine.execLdwPins s
  | .ldwSpindle => Sys2Proof.Machine.execLdwSpindle s
  | .ldwTimArr => Sys2Proof.Machine.execLdwTimArr s
  | .ldwTimCcr => Sys2Proof.Machine.execLdwTimCcr s
  | .ldwTimCnt => Sys2Proof.Machine.execLdwTimCnt s
  | .ldwPos k => Sys2Proof.Machine.execLdwPos k s
  | .ldwBlkSec b => Sys2Proof.Machine.execLdwBlkSec b s
  | .stwBlkSec b d => Sys2Proof.Machine.execStwBlkSec b d s
  | .ldwBlkFlg b => Sys2Proof.Machine.execLdwBlkFlg b s
  | .stwBlkFlg b d => Sys2Proof.Machine.execStwBlkFlg b d s
  | .ldwBlkSteps0 b => Sys2Proof.Machine.execLdwBlkSteps0 b s
  | .stwBlkSteps0 b d => Sys2Proof.Machine.execStwBlkSteps0 b d s
  | .ldwBlkSteps1 b => Sys2Proof.Machine.execLdwBlkSteps1 b s
  | .stwBlkSteps1 b d => Sys2Proof.Machine.execStwBlkSteps1 b d s
  | .ldwBlkSteps2 b => Sys2Proof.Machine.execLdwBlkSteps2 b s
  | .stwBlkSteps2 b d => Sys2Proof.Machine.execStwBlkSteps2 b d s
  | .ldwBlkSteps3 b => Sys2Proof.Machine.execLdwBlkSteps3 b s
  | .stwBlkSteps3 b d => Sys2Proof.Machine.execStwBlkSteps3 b d s
  | .ldwBlkSteps4 b => Sys2Proof.Machine.execLdwBlkSteps4 b s
  | .stwBlkSteps4 b d => Sys2Proof.Machine.execStwBlkSteps4 b d s
  | .ldwBlkSteps5 b => Sys2Proof.Machine.execLdwBlkSteps5 b s
  | .stwBlkSteps5 b d => Sys2Proof.Machine.execStwBlkSteps5 b d s
  | .tick => Sys2Proof.Machine.execTick s
  | .preset => Sys2Proof.Machine.execPreset s

end Sys2Proof.Machine
end

