-- ==== Sys2Proof/Machine/Timer.lean ====
section
/-! DEFINITION. What one step does: the timer's clock rule, a host transaction, power-on reset, and how an
instruction is placed where the next step fetches it. -/

namespace Sys2Proof.Machine

/-! ## The engine's fetch -/

/-- What the engine executes at the end of a period: the segment decoded from `SEG[tail]` when there is one, else the
handler itself, which then finds the ring empty (41_see_tick R170, R173). -/
def engineInstr (s : State) : Instr :=
  if s.hasSegment then
    match decode (.seg64 (s.segWord s.tail)) with
    | .ok i => i
    | .error _ => .tick
  else .tick

/-! ## The step timer -/

/-- One clock of a running timer (42_pulse_reset_and_timer R213). -/
def runningClock (s : State) : Host.Outcome State Fault Refusal :=
  if s.timer.tcnt + 1 = s.timer.arr then
    exec (engineInstr s) { s with timer := { s.timer with tcnt := 0 } }
  else if s.timer.tcnt + 1 = s.timer.ccr then
    exec .preset { s with timer := { s.timer with tcnt := s.timer.tcnt + 1 } }
  else .next { s with timer := { s.timer with tcnt := s.timer.tcnt + 1 } }

/-- One timer clock: while `run = 0` nothing counts (42_pulse_reset_and_timer R213). -/
def clockStep (s : State) : Host.Outcome State Fault Refusal :=
  if s.timer.run then runningClock { s with time := s.time + 1 } else .next { s with time := s.time + 1 }

/-! ## The host port -/

/-- The instruction a host transaction stands for. Only 32-bit accesses exist (20_memory R73); a write to `CMD`
stands for the command its data encodes (30_encoding R99, R104), or for `STW.CMD` itself when it encodes none. -/
def hostInstr (t : HostTxn) : Except DecodeError Instr :=
  if t.width = .word then
    match decode (.mmio t.we t.addr t.data) with
    | .ok (.stwCmd d) =>
      match decode (.cmd32 d) with
      | .ok i => .ok i
      | .error _ => .ok (.stwCmd d)
    | r => r
  else .error .narrow

/-- One host transaction: the instruction it stands for, or the refusal `ERR_BUS` (20_memory R73, R77). -/
def hostStep (t : HostTxn) (s : State) : Host.Outcome State Fault Refusal :=
  match hostInstr t with
  | .ok i => exec i s
  | .error _ => .next (s.busError t.we)

/-! ## Power-on reset -/

/-- Power-on reset: a new run of the same configuration, ring and pool unspecified afresh (70_reset_and_hazards R300,
log 13). -/
def powerOnStep (s : State) : Host.Outcome State Fault Refusal :=
  .next { State.powerOn s.cfg (s.epoch + 1) with inputs := s.inputs }

/-! ## One step -/

/-- The state once the next input is taken. -/
def takeInput (s : State) : State :=
  { s with inputs := s.inputs.tail }

/-- What the next step does: the first input, or a timer clock when there is none (log 3). -/
def inputStep (s : State) : Host.Outcome State Fault Refusal :=
  match s.inputs.head? with
  | none => clockStep (takeInput s)
  | some .clk => clockStep (takeInput s)
  | some (.host t) => hostStep t (takeInput s)
  | some .powerOn => powerOnStep (takeInput s)

/-! ## Placing an instruction -/

/-- `s` with a segment published alone in slot `tail` and the timer one clock before its period end, so that the next
step is the `TICK` that loads and executes it. -/
def placeSegment (w : SegWord) (s : State) : State :=
  { s with
    ring := (s.ring.writeWord (8 * s.tail.toNat) (w.extractLsb' 0 32)).writeWord (8 * s.tail.toNat + 4)
      (w.extractLsb' 32 32 &&& segw1Mask)
    head := nextIndex s.cfg s.tail
    exec := { s.exec with segValid := false }
    timer := { s.timer with tcnt := s.timer.arr - 1, run := true }
    inputs := .clk :: s.inputs }

/-- `s` with a word placed where the next step takes it from: a segment in slot `tail`, a command word or a
transaction as the Host's next transaction. -/
def placeEncoded (e : Encoded) (s : State) : State :=
  match e with
  | .seg64 w => placeSegment w s
  | .cmd32 w => { s with inputs := .host ⟨true, 0x000, w, .word⟩ :: s.inputs }
  | .mmio we addr data => { s with inputs := .host ⟨we, addr, data, .word⟩ :: s.inputs }

/-- `s` with the word that spec/opcode_table.json numbers as `w` placed where the next step takes it from. -/
def placeTableWord (nbits w : Nat) (s : State) : State :=
  match encodedOfTableWord nbits w with
  | some e => placeEncoded e s
  | none => s

end Sys2Proof.Machine
end

