-- ==== Sys2Proof/Machine/Step.lean ====
section
/-! DEFINITION. The step function. -/

namespace Sys2Proof.Machine

/-- One step of the machine. A configuration the spec rejects is no machine (00_scope R5 to R8, log 17). -/
def step (s : State) : Host.Outcome State Fault Refusal :=
  if s.cfg.legal then inputStep s else .fault .configRejected

/-- `s` with the instruction of `nbits` bits `w` stored where `step` fetches its next instruction (log 4). -/
def State.withFetchWord (s : State) (nbits w : Nat) : State :=
  placeTableWord nbits w s

end Sys2Proof.Machine
end

