-- ==== Sys2Proof/Machine/Lines.lean ====
section
/-! DEFINITION. The output port as the outside sees it: a view of the latches (42_pulse_reset_and_timer R211, R212,
R219, R220, R223, R225). -/

namespace Sys2Proof.Machine

/-- The level on a wire: the latch once INIT has driven the pins, any level before (R223, 93 U16). -/
def State.wireLevel (s : State) (line : Nat) (latch : Bool) : Bool :=
  if s.lines.pinsDriven then latch else Config.floatingLevel s.time line

/-- The wire `STEP[i]`. -/
def State.stepWire (s : State) (i : Axis) : Bool :=
  s.wireLevel i.val (s.lines.step.bit i)

/-- The wire `DIR[i]`. -/
def State.dirWire (s : State) (i : Axis) : Bool :=
  s.wireLevel (6 + i.val) (s.lines.dir.bit i)

/-- The wire `EN`. -/
def State.enWire (s : State) : Bool :=
  s.wireLevel 12 s.lines.en

/-- The mirrored wires `STEP_X2`, `DIR_X2`, present with `DUAL_X_AXIS` (R220). Axis 0 exists in every legal
configuration (00_scope R5). -/
def State.mirrorX (s : State) : Option (Bool × Bool) :=
  if s.cfg.dualX then some (s.wireLevel 13 (s.lines.step.bit 0), s.wireLevel 14 (s.lines.dir.bit 0)) else none

/-- The level of wire `line` that mirrors a latch of axis `i`. The spec does not say what it carries where axis `i` does
not exist (`DUAL_Y_AXIS` on with `N_AXIS = 1`): DESIGN CHOICE, the wire is there and its level is a free value
(log 25). -/
def State.mirrorLevel (s : State) (line : Nat) (i : Axis) (latch : Bool) : Bool :=
  if s.cfg.hasAxis i then s.wireLevel line latch else Config.floatingLevel s.time line

/-- The mirrored wires `STEP_Y2`, `DIR_Y2`, present with `DUAL_Y_AXIS` (R220), also where axis 1 does not exist
(log 25). -/
def State.mirrorY (s : State) : Option (Bool × Bool) :=
  if s.cfg.dualY then
    some (s.mirrorLevel 15 1 (s.lines.step.bit 1), s.mirrorLevel 16 1 (s.lines.dir.bit 1))
  else none

end Sys2Proof.Machine
end

