-- ==== Sys2Proof/Safety.lean ====
section
/-! DEFINITION. The terms claims are stated in: invariants of the machine, the address map as a predicate, the
producer's contract, runs of the engine, and what is observed of the trace. -/

namespace Sys2Proof

/-! ## Axes that exist -/

/-- The mask holds bits of existing axes only. -/
abbrev AxisBits.Within (c : Config) (b : AxisBits) : Prop :=
  ∀ i : Axis, b.bit i = true → i.val < c.nAxis

/-- The vector is 0 on axes that do not exist. -/
abbrev AxisVec.Within (c : Config) (v : AxisVec Word) : Prop :=
  ∀ i : Axis, c.nAxis ≤ i.val → v.get i = 0

/-- A byte address of the pool that exists: a word of an entry `b < N_BLK` that the entry has (20_memory R77). -/
abbrev Config.poolAddress (c : Config) (a : Nat) : Prop :=
  0x100 ≤ a ∧ a < 0x100 + 0x20 * c.nBlk ∧ a % 0x20 < 8 + 4 * c.nAxis

/-! ## The address map of 20_memory R76 -/

/-- Address of word `word` of an existing pool entry. -/
abbrev Config.poolWordAddr (c : Config) (a : Nat) : Prop :=
  0x100 ≤ a ∧ (a - 0x100) / 0x20 < c.nBlk ∧ a % 4 = 0 ∧ a % 0x20 < 8 + 4 * c.nAxis

/-- The addresses of scalar registers a read is legal at. -/
def readableScalars : List Nat :=
  [0x004, 0x008, 0x00C, 0x010, 0x014, 0x018, 0x01C, 0x020, 0x024, 0x028, 0x02C, 0x030, 0x034, 0x038, 0x03C, 0x060,
   0x064, 0x068]

/-- The addresses of scalar registers a write is legal at. -/
def writableScalars : List Nat :=
  [0x000, 0x008, 0x014, 0x018, 0x01C, 0x020, 0x024, 0x028, 0x02C]

/-- A read is legal at the address. -/
abbrev Config.Readable (c : Config) (a : Nat) : Prop :=
  a ∈ readableScalars ∨ (0x040 ≤ a ∧ a < 0x040 + 4 * c.nAxis ∧ a % 4 = 0) ∨ c.poolWordAddr a

/-- A write is legal at the address. -/
abbrev Config.Writable (c : Config) (a : Nat) : Prop :=
  a ∈ writableScalars ∨ c.poolWordAddr a

/-- A transaction is a legal access: 32 bits wide, at an address of the map, in a direction the register has. -/
abbrev Config.Accessible (c : Config) (t : Machine.HostTxn) : Prop :=
  t.width = .word ∧ if t.we then c.Writable t.addr.toNat else c.Readable t.addr.toNat

/-- A command word of 30_encoding R104. -/
def legalCommandWords : List Nat :=
  [0x00000001, 0x00000002, 0x00000003, 0x00000103, 0x00000004, 0x00000005, 0x00000006]

/-! ## Segments -/

/-- A segment is well formed (45_producer_contract R241): `n_step` is a positive multiple of `2^amass_level`, the
level is legal, the index names a pool entry. The rule's bound on `cycles_per_tick` is left out: the engine clamps it. -/
structure Config.WellFormedSegment (c : Config) (f : Segment) : Prop where
  positive : 1 ≤ f.nStep.toNat
  level : f.amassLevel.toNat ≤ c.maxAmassLevel
  multiple : 2 ^ f.amassLevel.toNat ∣ f.nStep.toNat
  index : f.stBlockIndex.toNat < c.nBlk

/-- The dominant-axis steps a segment delivers: `n_step >> amass_level` (45_producer_contract R242). -/
def Segment.delivers (f : Segment) : Nat :=
  f.nStep.toNat / 2 ^ f.amassLevel.toNat

/-- The number of ticks a segment runs: `n_step`, or 65536 for 0 (41_see_tick R189). -/
def Segment.ticks (f : Segment) : Nat :=
  if f.nStep.toNat = 0 then 65536 else f.nStep.toNat

end Sys2Proof

namespace Sys2Proof.Machine

/-! ## Invariants -/

/-- The ring indices name slots, and a bound segment keeps the ring not empty (20_memory R94). -/
abbrev State.RingInv (s : State) : Prop :=
  s.head.toNat < s.cfg.nSeg ∧ s.tail.toNat < s.cfg.nSeg ∧ (s.exec.segValid = true → s.head ≠ s.tail)

/-- A bound segment has a bound block, and a bound block is a pool entry (10_state R24, 41_see_tick R178). -/
abbrev State.BlockInv (s : State) : Prop :=
  (s.exec.segValid = true → s.exec.blockValid = true) ∧
    (s.exec.blockValid = true → s.exec.blockIndex.toNat < s.cfg.nBlk)

/-- The reload respects its minimum, the compare is three quarters of it, the count lies inside the period
(42_pulse_reset_and_timer R213, R214). -/
abbrev State.TimerInv (s : State) : Prop :=
  s.cfg.stepTimerMin ≤ s.timer.arr.toNat ∧ s.timer.ccr.toNat = 3 * s.timer.arr.toNat / 4 ∧
    s.timer.tcnt.toNat < s.timer.arr.toNat

/-- Nothing is stored for axes the configuration does not have (10_state R43, R44, R47, 30_encoding R106). -/
abbrev State.MaskInv (s : State) : Prop :=
  AxisBits.Within s.cfg s.exec.stepOutbits ∧ AxisBits.Within s.cfg s.exec.dirOutbits ∧
    AxisBits.Within s.cfg s.settings.stepInv ∧ AxisBits.Within s.cfg s.settings.dirInv ∧
    AxisBits.Within s.cfg s.sysctl.homingLock ∧ AxisBits.Within s.cfg s.stepInv ∧ AxisBits.Within s.cfg s.dirInv ∧
    AxisBits.Within s.cfg s.lines.step ∧ AxisBits.Within s.cfg s.lines.dir ∧
    AxisVec.Within s.cfg s.exec.counter ∧ AxisVec.Within s.cfg s.exec.steps ∧ AxisVec.Within s.cfg s.sysPosition

/-- Ring and pool are in canonical form and list only bytes that exist. -/
abbrev State.MemoryInv (s : State) : Prop :=
  s.pool.wf ∧ s.ring.wf ∧ (∀ p ∈ s.pool, s.cfg.poolAddress p.1) ∧ (∀ p ∈ s.ring, p.1 < 8 * s.cfg.nSeg)

/-- A faulted engine is halted on the bad slot: the timer is stopped, nothing is bound, the ring is not empty and
`SEG[tail]` still names no pool entry (60_exceptions R277, 70_reset_and_hazards R317). -/
abbrev State.FaultInv (s : State) : Prop :=
  s.flags.faultBadidx = true →
    s.timer.run = false ∧ s.exec.segValid = false ∧ s.head ≠ s.tail ∧
      s.cfg.nBlk ≤ (s.segment s.tail).stBlockIndex.toNat

/-! ## The producer's contract (45_producer_contract) -/

/-- Pool entry `b` is well formed for the planner's counts: every count is pre-shifted by `MAX_AMASS_LEVEL`, none
exceeds the event count, and the event count is below 2^31 (45_producer_contract R240). -/
structure State.WellFormedBlock (s : State) (b : Nat) (events : Nat) (counts : Axis → Nat) : Prop where
  positive : 1 ≤ events
  sec : (s.blkSec b).toNat = events * 2 ^ s.cfg.maxAmassLevel
  bound : events * 2 ^ s.cfg.maxAmassLevel < 2 ^ 31
  steps : ∀ i : Axis, i.val < s.cfg.nAxis → (s.blkSteps b i.val).toNat = counts i * 2 ^ s.cfg.maxAmassLevel
  le : ∀ i : Axis, i.val < s.cfg.nAxis → counts i ≤ events

/-- The live slots from `tail` on hold the segments `fs`, in order. -/
def State.Queued (s : State) (fs : List Segment) : Prop :=
  fs.length ≤ s.count ∧
    ∀ k (h : k < fs.length), s.segment (BitVec.ofNat 8 ((s.tail.toNat + k) % s.cfg.nSeg)) = fs[k]

/-! ## Runs of the engine -/

/-- The state after `n` `TICK` handlers with nothing between them. -/
def State.ticks : Nat → State → State
  | 0, s => s
  | n + 1, s => State.ticks n s.tickHandler

/-- An accumulator run for `n` ticks: its value and the steps decided. -/
def bresenhamRun (increment sec : Word) : Nat → Word → Word × Nat
  | 0, c => (c, 0)
  | n + 1, c =>
    let u := bresenham c increment sec
    let r := bresenhamRun increment sec n u.acc
    (r.1, r.2 + if u.step then 1 else 0)

/-! ## What is observed of the trace -/

/-- How often an event stands in a stretch of the trace. -/
def countEvent (e : OutEvent) (es : List TraceEntry) : Nat :=
  es.countP fun x => x.event == e

/-- The STEP line of axis `i` is at its active level `1 ^ step_inv[i]` (42_pulse_reset_and_timer R211). -/
def State.stepActive (s : State) (i : Axis) : Bool :=
  s.lines.step.bit i != s.stepInv.bit i

/-- The events of a trace, without their time stamps. -/
def eventsOf (es : List TraceEntry) : List OutEvent :=
  es.map TraceEntry.event

/-- The edges Phase A makes: one rise for each axis whose bit is set and whose line is idle (41_see_tick R171). -/
def State.decidedRises (s : State) : List OutEvent :=
  (s.cfg.axes.filter fun i => s.exec.stepOutbits.bit i && !s.stepActive i).map .stepRise

/-- The edges of idling every line that is active once Phase A is done (41_see_tick R174, 60_exceptions R276). -/
def State.fallsAfterPhaseA (s : State) : List OutEvent :=
  (s.cfg.axes.filter fun i => s.exec.stepOutbits.bit i || s.stepActive i).map .stepFall

/-- The DIR changes of binding pool entry `b` (41_see_tick R182). -/
def State.directionChanges (s : State) (b : Nat) : List OutEvent :=
  (s.cfg.axes.filter fun i => s.lines.dir.bit i != ((s.blkFlg b).getLsbD i.val ^^ s.dirInv.bit i)).map fun i =>
    .dirSet i ((s.blkFlg b).getLsbD i.val ^^ s.dirInv.bit i)

/-- The probe strobe of a tick that runs a segment (41_see_tick R188). -/
def State.probeEvents (s : State) : List OutEvent :=
  if s.sysctl.probeActive then [.probePoll] else []

/-! ## The untimed abstraction (42_pulse_reset_and_timer R218) -/

/-- The phase bit of the untimed abstraction. -/
inductive Phase where
  | beforeCmp
  | afterCmp
deriving DecidableEq, Repr

/-- The phase the timer is in: which of the two handlers comes next. -/
def State.phase (s : State) : Phase :=
  if s.timer.tcnt.toNat < s.timer.ccr.toNat then .beforeCmp else .afterCmp

end Sys2Proof.Machine
end

