-- ==== Sys2Proof/Certificates/Slice0/Obligations.lean ====
section
/-! DEFINITION. The statements for the provers. Each docstring names the rules of spec/ it rests on. A statement
quantifies over every state that meets its hypotheses, so over every configuration. -/

open Sys2Proof Sys2Proof.Machine

/-! ## Host reads and writes -/

/-- `LDW.STATUS` (10_state R36): bits 0 to 5, every other bit 0, nothing but the host result written. -/
def Obligations.StatusReadsItsView : Prop :=
  ∀ s : State, s.cfg.legal = true →
    ∃ v : Word, exec .ldwStatus s = .next { s with hostResult := v } ∧
      v.getLsbD 0 = decide (s.head = s.tail) ∧
      v.getLsbD 1 = decide (s.tail.toNat = (s.head.toNat + 1) % s.cfg.nSeg) ∧
      v.getLsbD 2 = s.timer.run ∧ v.getLsbD 3 = s.lines.drvEnabled ∧ v.getLsbD 4 = s.lines.pinsDriven ∧
      v.getLsbD 5 = s.flags.faultBadidx ∧ ∀ k, 6 ≤ k → v.getLsbD k = false

/-- `LDW.FLAGS` reads each cause at its code and 0 elsewhere; `STW.FLAGS` clears exactly the bits in 0..3 that are 1
in the written word (10_state R35, 60_exceptions R271). -/
def Obligations.FlagsReadAndWriteOneToClear : Prop :=
  ∀ (s : State) (d : Word),
    (∃ v : Word, exec .ldwFlags s = .next { s with hostResult := v } ∧
      v.getLsbD 0 = s.flags.cycleStop ∧ v.getLsbD 1 = s.flags.errFull ∧ v.getLsbD 2 = s.flags.errCmd ∧
      v.getLsbD 3 = s.flags.errBus ∧ v.getLsbD 8 = s.flags.faultBadidx ∧
      ∀ k, k ≠ 0 → k ≠ 1 → k ≠ 2 → k ≠ 3 → k ≠ 8 → v.getLsbD k = false) ∧
    ∃ g : FlagBits, exec (.stwFlags d) s = .next { s with flags := g } ∧
      g.cycleStop = (s.flags.cycleStop && !d.getLsbD 0) ∧ g.errFull = (s.flags.errFull && !d.getLsbD 1) ∧
      g.errCmd = (s.flags.errCmd && !d.getLsbD 2) ∧ g.errBus = (s.flags.errBus && !d.getLsbD 3) ∧
      g.faultBadidx = s.flags.faultBadidx

/-- `HEAD` and `TAIL` (10_state R53): bits 7..0 return the index, other bits 0; a write is refused with `ERR_BUS`. -/
def Obligations.HeadAndTailRegisters : Prop :=
  ∀ s : State,
    exec .ldwHead s = .next { s with hostResult := BitVec.ofNat 32 s.head.toNat } ∧
    exec .ldwTail s = .next { s with hostResult := BitVec.ofNat 32 s.tail.toNat } ∧
    ∀ (d : Word) (rest : List Input), s.cfg.legal = true →
      (s.inputs = .host ⟨true, 0x00C, d, .word⟩ :: rest ∨ s.inputs = .host ⟨true, 0x010, d, .word⟩ :: rest) →
      step s = .next { s with inputs := rest, flags := { s.flags with errBus := true } }

/-- `LDW.POS[i]` (10_state R38, 40_host_commands R137, 20_memory R77): the position's bit pattern on an existing axis,
a refusal with `ERR_BUS` and 0 on any other. -/
def Obligations.PositionRegisterReads : Prop :=
  ∀ (s : State) (i : BitVec 3), s.cfg.legal = true →
    (i.toNat < s.cfg.nAxis → ∀ a : Axis, a.val = i.toNat →
      exec (.ldwPos i) s = .next { s with hostResult := s.sysPosition.get a }) ∧
    (s.cfg.nAxis ≤ i.toNat →
      exec (.ldwPos i) s = .next { s with hostResult := 0, flags := { s.flags with errBus := true } })

/-- The read-only views (10_state R48 to R51): each read returns the register zero-extended; `PINS` bit by bit. -/
def Obligations.ReadOnlyViewsRead : Prop :=
  ∀ s : State,
    exec .ldwStepInv s = .next { s with hostResult := BitVec.ofNat 32 s.stepInv.toNat } ∧
    exec .ldwDirInv s = .next { s with hostResult := BitVec.ofNat 32 s.dirInv.toNat } ∧
    exec .ldwSpindle s = .next { s with hostResult := BitVec.ofNat 32 s.spindlePwmOut.toNat } ∧
    exec .ldwTimArr s = .next { s with hostResult := BitVec.ofNat 32 s.timer.arr.toNat } ∧
    exec .ldwTimCcr s = .next { s with hostResult := BitVec.ofNat 32 s.timer.ccr.toNat } ∧
    exec .ldwTimCnt s = .next { s with hostResult := BitVec.ofNat 32 s.timer.tcnt.toNat } ∧
    ∃ v : Word, exec .ldwPins s = .next { s with hostResult := v } ∧
      (∀ i : Axis, v.getLsbD i.val = s.lines.step.bit i ∧ v.getLsbD (8 + i.val) = s.lines.dir.bit i) ∧
      v.getLsbD 6 = false ∧ v.getLsbD 7 = false ∧ v.getLsbD 14 = false ∧ v.getLsbD 15 = false ∧
      v.getLsbD 16 = s.lines.en ∧ v.getLsbD 17 = s.lines.pinsDriven ∧ ∀ k, 18 ≤ k → v.getLsbD k = false

/-- `SET_STEP_INV` and `SET_DIR_INV` (10_state R43, R44): a write stores the bits of the existing axes and nothing
else; a read returns exactly those. -/
def Obligations.InvertSettingsReadBack : Prop :=
  ∀ (s : State) (d : Word), s.cfg.legal = true →
    (∃ (t : State) (v : Word), exec (.stwSetStepInv d) s = .next t ∧
      t = { s with settings := { s.settings with stepInv := t.settings.stepInv } } ∧
      exec .ldwSetStepInv t = .next { t with hostResult := v } ∧
      ∀ k, v.getLsbD k = (decide (k < s.cfg.nAxis) && d.getLsbD k)) ∧
    ∃ (t : State) (v : Word), exec (.stwSetDirInv d) s = .next t ∧
      t = { s with settings := { s.settings with dirInv := t.settings.dirInv } } ∧
      exec .ldwSetDirInv t = .next { t with hostResult := v } ∧
      ∀ k, v.getLsbD k = (decide (k < s.cfg.nAxis) && d.getLsbD k)

/-- `SET_FLAGS`, `SET_IDLE_LOCK`, `SYSCTL` (10_state R45 to R47): a write stores the defined bits and nothing else;
a read returns exactly those. -/
def Obligations.SystemSettingsReadBack : Prop :=
  ∀ (s : State) (d : Word), s.cfg.legal = true →
    (∃ (t : State) (v : Word), exec (.stwSetFlags d) s = .next t ∧
      t = { s with settings := { s.settings with
        invertStEnable := t.settings.invertStEnable, laserMode := t.settings.laserMode } } ∧
      exec .ldwSetFlags t = .next { t with hostResult := v } ∧
      ∀ k, v.getLsbD k = (decide (k < 2) && d.getLsbD k)) ∧
    (∃ (t : State) (v : Word), exec (.stwSetIdleLock d) s = .next t ∧
      t = { s with settings := { s.settings with idleLock := t.settings.idleLock } } ∧
      exec .ldwSetIdleLock t = .next { t with hostResult := v } ∧
      ∀ k, v.getLsbD k = (decide (k < 8) && d.getLsbD k)) ∧
    ∃ (t : State) (v : Word), exec (.stwSysctl d) s = .next t ∧
      t = { s with sysctl := t.sysctl } ∧
      exec .ldwSysctl t = .next { t with hostResult := v } ∧
      ∀ k, v.getLsbD k = ((decide (k < 2) || (decide (8 ≤ k) && decide (k < 8 + s.cfg.nAxis))) && d.getLsbD k)

/-- The segment window (10_state R54, 40_host_commands R137, R138, 30_encoding R100, R106): `SEGW0` and `SEGW1` store the
words of `SEG[head]`, the reserved bits dropped, read them back, and touch no other byte and no other state. A read in
any state, of a word that nothing has written too, returns some value and changes nothing but the host result. That the
next read returns the same value is U5's rule in the model's form (93_implementation_defined U5; log 2). That the
reserved bits, 15 to 13 of `SEGW1`, read 0 also in a word that nothing has written is the model's reading, since R137
calls that value unspecified (30_encoding R106; DEDUCED, log 14). -/
def Obligations.SegmentWindowReadsBack : Prop :=
  (∀ s : State,
    (∃ v : Word, exec .ldwSegw0 s = .next { s with hostResult := v } ∧
      exec .ldwSegw0 { s with hostResult := v } = .next { s with hostResult := v }) ∧
    ∃ v : Word, exec .ldwSegw1 s = .next { s with hostResult := v } ∧
      exec .ldwSegw1 { s with hostResult := v } = .next { s with hostResult := v } ∧
      v.getLsbD 13 = false ∧ v.getLsbD 14 = false ∧ v.getLsbD 15 = false) ∧
  ∀ (s : State) (d0 d1 : Word), ∃ t u : State,
    exec (.stwSegw0 d0) s = .next t ∧ exec (.stwSegw1 d1) t = .next u ∧
    exec .ldwSegw0 u = .next { u with hostResult := d0 } ∧
    exec .ldwSegw1 u = .next { u with hostResult := d1 &&& 0xFFFF1FFF } ∧
    t = { s with ring := t.ring } ∧ u = { t with ring := u.ring } ∧
    u.segment s.head = decodeSegment (d1 ++ d0) ∧
    (∀ a, (a < 8 * s.head.toNat ∨ 8 * s.head.toNat + 4 ≤ a) → t.ring.read a = s.ring.read a) ∧
    ∀ a, (a < 8 * s.head.toNat + 4 ∨ 8 * s.head.toNat + 8 ≤ a) → u.ring.read a = t.ring.read a

/-- 20_memory R83: the only way into the ring is the window at `head`, slot `head` is never live, and no instruction
but `RESET` alters a live segment. -/
def Obligations.LiveSegmentsCannotBeAltered : Prop :=
  ∀ (i : Instr) (s t : State), s.cfg.legal = true → s.RingInv → exec i s = .next t → i ≠ .reset → i ≠ .stwCmd 4 →
    s.isLive s.head.toNat = false ∧
    (∀ a, (a < 8 * s.head.toNat ∨ 8 * s.head.toNat + 8 ≤ a) → t.ring.read a = s.ring.read a) ∧
    ∀ k, s.isLive k = true → t.segment (BitVec.ofNat 8 k) = s.segment (BitVec.ofNat 8 k)

/-- The pool words on an existing word (30_encoding R102, R106, 40_host_commands R137, R138), `SEC`, `FLG` and `STEPS[0]`
to `STEPS[5]`. `STW.BLK[b].<word>` then `LDW.BLK[b].<word>`: the stored word comes back, `FLG` with its defined bits only;
no byte outside the word and no other state changes. A read in any state, of a word that nothing has written too,
returns some value and changes nothing but the host result. That the next read returns the same value is U5's rule in
the model's form (93_implementation_defined U5; log 2). That the undefined bits of `FLG` read 0 also in a word that
nothing has written is the model's reading, since U5 leaves that value open (30_encoding R106; DEDUCED, log 14). -/
def Obligations.PoolWordsReadBack : Prop :=
  ∀ (s : State) (b : BitVec 7) (w : Fin 8) (d d' : Word), s.cfg.legal = true → b.toNat < s.cfg.nBlk →
    w.val < 2 + s.cfg.nAxis →
    (∃ v : Word, exec (poolInstr false b w d') s = .next { s with hostResult := v } ∧
      exec (poolInstr false b w d') { s with hostResult := v } = .next { s with hostResult := v } ∧
      (w.val = 1 → ∀ k, s.cfg.nAxis ≤ k → k ≠ 8 → v.getLsbD k = false)) ∧
    ∃ (t : State) (v : Word), exec (poolInstr true b w d) s = .next t ∧
      exec (poolInstr false b w d') t = .next { t with hostResult := v } ∧
      (w.val ≠ 1 → v = d) ∧
      (w.val = 1 → ∀ k, v.getLsbD k = ((decide (k < s.cfg.nAxis) || decide (k = 8)) && d.getLsbD k)) ∧
      t = { s with pool := t.pool } ∧
      ∀ a, (a < poolByteAddr b.toNat w.val ∨ poolByteAddr b.toNat w.val + 4 ≤ a) → t.pool.read a = s.pool.read a

/-- An access to a pool word that does not exist, `b >= N_BLK` or `STEPS[i]` with `i >= N_AXIS`, is refused
(20_memory R77): `ERR_BUS`, a read returns 0, nothing else changes. -/
def Obligations.AbsentPoolWordsRefused : Prop :=
  ∀ (s : State) (b : BitVec 7) (w : Fin 8) (d : Word), (s.cfg.nBlk ≤ b.toNat ∨ 2 + s.cfg.nAxis ≤ w.val) →
    exec (poolInstr false b w d) s = .next { s with hostResult := 0, flags := { s.flags with errBus := true } } ∧
    exec (poolInstr true b w d) s = .next { s with flags := { s.flags with errBus := true } }

/-- A transaction that is no legal access, misaligned, unmapped or in a direction the register does not have, sets
`ERR_BUS`, a read returns 0, and nothing else changes (20_memory R73, R77). So does one of a width other than 32 bits;
that a transaction carries its width is read from R73 (log 15), and the list of inputs is the model's (log 3). -/
def Obligations.IllegalAccessRefused : Prop :=
  ∀ (s : State) (x : HostTxn) (rest : List Input), s.cfg.legal = true → s.inputs = .host x :: rest →
    ¬ s.cfg.Accessible x →
    step s = .next
      (if x.we then { s with inputs := rest, flags := { s.flags with errBus := true } }
       else { s with inputs := rest, flags := { s.flags with errBus := true }, hostResult := 0 })

/-- A step that takes a legal access answers a next state and never newly raises `ERR_BUS` (20_memory R76, R77,
60_exceptions R273); a legal write to `CMD` may still be refused with `ERR_CMD` or `ERR_FULL`. -/
def Obligations.LegalAccessNeverRaisesErrBus : Prop :=
  ∀ (s : State) (x : HostTxn) (rest : List Input), s.cfg.legal = true → s.inputs = .host x :: rest →
    s.cfg.Accessible x →
    ∃ t, step s = .next t ∧ (t.flags.errBus = true → s.flags.errBus = true)

/-! ## Commands -/

/-- `INIT` (40_host_commands R130): the pins are driven, the timer is stopped with its defaults, nothing else
changes; a second `INIT` changes nothing; after POR `PINS` then reads 0x00030000. -/
def Obligations.InitConfiguresTimerAndPins : Prop :=
  (∀ s : State, s.cfg.legal = true →
    ∃ t, exec .init s = .next t ∧ exec .init t = .next t ∧
      t = { s with lines := { s.lines with pinsDriven := true }, timer := t.timer } ∧
      t.timer.tcnt = 0 ∧ t.timer.run = false ∧ t.timer.arr.toNat = s.cfg.stepTimerMin ∧
      t.timer.ccr.toNat = 3 * s.cfg.stepTimerMin / 4) ∧
  ∃ t u : State, exec .init State.reset = .next t ∧ exec .ldwPins t = .next u ∧ u.hostResult = 0x00030000

/-- `WAKE` (40_host_commands R131): refused under a fault; otherwise the drivers are enabled, `EnSet` is emitted, and
a stopped timer starts from 0; nothing else changes. That the wait of `T_WAKE`, rounded down to clocks, moves the
trace's clock only when the timer was stopped is the model's choice (log 7, log 16, log 26); the polarity of the enable
line is the spec's general knowledge (42_pulse_reset_and_timer R219, PRESUMED, log 20). -/
def Obligations.WakeEnablesAndStarts : Prop :=
  ∀ s : State,
    (s.flags.faultBadidx = true → exec .wake s = .next { s with flags := { s.flags with errCmd := true } }) ∧
    (s.flags.faultBadidx = false →
      exec .wake s = .next { s with
        lines := { s.lines with en := s.settings.invertStEnable, drvEnabled := true }
        timer := if s.timer.run then s.timer else { s.timer with tcnt := 0, run := true }
        time := if s.timer.run then s.time else s.time + s.cfg.fTimerStepper / 100
        trace := s.trace ++ [⟨s.time, .enSet s.settings.invertStEnable⟩] })

/-- `DISABLE ovr`, the Disable sequence (40_host_commands R132, R139): the timer stops with its count and reloads
kept, every STEP line is idle, the drivers are disabled exactly when the sequence dwells or `ovr` is set, the enable
line follows with its invert flag, each active STEP line falls and `EnSet` comes last; nothing else changes.
When the sequence disables (the value 0xFF keeps, homing suppresses, `ovr` forces) and the polarity of the enable line are
the spec's general knowledge, followed as R139 states them (PRESUMED, log 20). -/
def Obligations.DisableSequenceEffect : Prop :=
  ∀ (s : State) (ovr : Bool),
    ∃ (t : State) (dis : Bool), exec (.disable ovr) s = .next t ∧
      (dis = true ↔ ((s.settings.idleLock.toNat ≠ 255 ∧ s.sysctl.homing = false) ∨ ovr = true)) ∧
      (∀ i : Axis, i.val < s.cfg.nAxis → t.lines.step.bit i = s.stepInv.bit i) ∧
      t = { s with
        timer := { s.timer with run := false }
        lines := { s.lines with
          step := t.lines.step, en := dis ^^ s.settings.invertStEnable, drvEnabled := !dis }
        time := t.time
        trace := t.trace } ∧
      eventsOf t.trace =
        eventsOf s.trace ++
          ((s.cfg.axes.filter fun i => s.stepActive i).map OutEvent.stepFall ++
            [.enSet (dis ^^ s.settings.invertStEnable)])

/-- `RESET` (40_host_commands R133, 10_state R60): ExecState, indices and flags 0, timer at its defaults, masks copied
from the settings, STEP and DIR low, ring and pool unspecified; positions, settings, SYSCTL, the enable line, the
spindle value and the rest keep their values. One spurious `StepRise` per inverted idle line, no `EnSet`. That
unspecified contents are an empty list under a new epoch is the model's form of a free value (log 2). -/
def Obligations.ResetZeroesTheStepper : Prop :=
  ∀ s : State, s.cfg.legal = true →
    ∃ (t : State) (es : List TraceEntry), exec .reset s = .next t ∧
      t = { s with
        exec := ⟨AxisVec.fill 0, AxisVec.fill 0, 0, 0, false, false, 0, 0⟩
        head := 0, tail := 0, flags := ⟨false, false, false, false, false⟩
        pool := [], ring := [], epoch := s.epoch + 1
        stepInv := s.settings.stepInv, dirInv := s.settings.dirInv
        timer := ⟨0, BitVec.ofNat 16 s.cfg.stepTimerMin, BitVec.ofNat 16 (3 * s.cfg.stepTimerMin / 4), false⟩
        lines := { s.lines with step := 0, dir := 0 }
        trace := s.trace ++ es } ∧
      ∀ i : Axis, i.val < s.cfg.nAxis →
        countEvent (.stepRise i) es = (if s.lines.step.bit i && s.settings.stepInv.bit i then 1 else 0) ∧
        countEvent (.stepFall i) es = (if s.lines.step.bit i && !s.settings.stepInv.bit i then 1 else 0) ∧
        countEvent (.dirSet i false) es = (if s.lines.dir.bit i then 1 else 0) ∧
        countEvent (.dirSet i true) es = 0 ∧ countEvent (.enSet true) es = 0 ∧ countEvent (.enSet false) es = 0

/-- `GENMASK` (40_host_commands R134): the active masks become the settings; no line is driven and nothing else
changes. -/
def Obligations.GenmaskCopiesSettings : Prop :=
  ∀ s : State, exec .genmask s = .next { s with stepInv := s.settings.stepInv, dirInv := s.settings.dirInv }

/-- `PUBLISH` (40_host_commands R135): refused with `ERR_FULL` when `(head + 1) mod N_SEG == tail`, else `head`
advances by one modulo `N_SEG`; nothing else changes, whatever the slot holds. -/
def Obligations.PublishAdvancesHead : Prop :=
  ∀ s : State, s.cfg.legal = true →
    ((s.head.toNat + 1) % s.cfg.nSeg = s.tail.toNat →
      exec .publish s = .next { s with flags := { s.flags with errFull := true } }) ∧
    ((s.head.toNat + 1) % s.cfg.nSeg ≠ s.tail.toNat →
      ∃ h : BitVec 8, h.toNat = (s.head.toNat + 1) % s.cfg.nSeg ∧ exec .publish s = .next { s with head := h })

/-- A write to `CMD` executes the command its word encodes (30_encoding R104, 40_host_commands R138), and a word that
matches no command is refused: `ERR_CMD`, nothing else changes (40_host_commands R136). -/
def Obligations.CommandWriteExecutesOrRefuses : Prop :=
  ∀ s : State,
    exec (.stwCmd 0x00000001) s = exec .init s ∧ exec (.stwCmd 0x00000002) s = exec .wake s ∧
    exec (.stwCmd 0x00000003) s = exec (.disable false) s ∧ exec (.stwCmd 0x00000103) s = exec (.disable true) s ∧
    exec (.stwCmd 0x00000004) s = exec .reset s ∧ exec (.stwCmd 0x00000005) s = exec .genmask s ∧
    exec (.stwCmd 0x00000006) s = exec .publish s ∧
    exec (.stwCmd 0x00000005) s =
      .next { s with stepInv := s.settings.stepInv, dirInv := s.settings.dirInv } ∧
    ∀ d : Word, d.toNat ∉ legalCommandWords →
      exec (.stwCmd d) s = .next { s with flags := { s.flags with errCmd := true } }

/-- `DISABLE` and `WAKE` in mid-motion (70_reset_and_hazards R309): all engine state, the queued segments, the reloads
and the position come through; the timer restarts from 0. -/
def Obligations.DisableThenWakeResumes : Prop :=
  ∀ (s t u : State) (ovr : Bool), s.flags.faultBadidx = false → exec (.disable ovr) s = .next t →
    exec .wake t = .next u →
    u.exec = s.exec ∧ u.head = s.head ∧ u.tail = s.tail ∧ u.ring = s.ring ∧ u.pool = s.pool ∧ u.epoch = s.epoch ∧
    u.sysPosition = s.sysPosition ∧ u.timer = { s.timer with tcnt := 0, run := true } ∧
    u.lines.drvEnabled = true ∧ u.lines.dir = s.lines.dir

/-! ## The engine -/

/-- One tick of a bound segment (41_see_tick R171, R172, R185 to R189): per axis the accumulator, the step bit under
the homing lock, the position and the line; the count down and the retire; the events; nothing else changes. -/
def Obligations.BoundSegmentTick : Prop :=
  ∀ (f : Segment) (s : State), s.cfg.legal = true → s.exec.segValid = true →
    ∃ t, exec (.seg f) s = .next t ∧
      (∀ i : Axis, i.val < s.cfg.nAxis →
        let sec := s.blkSec s.exec.blockIndex.toNat
        let sum := s.exec.counter.get i + s.exec.steps.get i
        let old := s.sysPosition.get i
        let negative := (s.blkFlg s.exec.blockIndex.toNat).getLsbD i.val
        (sec.toNat < sum.toNat →
          t.exec.counter.get i = sum - sec ∧
          t.exec.stepOutbits.bit i = (!s.sysctl.homing || s.sysctl.homingLock.bit i) ∧
          t.sysPosition.get i = if f.backlashMotion then old else if negative then old - 1 else old + 1) ∧
        (sum.toNat ≤ sec.toNat →
          t.exec.counter.get i = sum ∧ t.exec.stepOutbits.bit i = false ∧ t.sysPosition.get i = old) ∧
        t.lines.step.bit i = if s.exec.stepOutbits.bit i then !s.stepInv.bit i else s.lines.step.bit i) ∧
      (s.exec.stepCount = 1 → t.exec.segValid = false ∧ t.tail.toNat = (s.tail.toNat + 1) % s.cfg.nSeg) ∧
      (s.exec.stepCount ≠ 1 → t.exec.segValid = true ∧ t.tail = s.tail) ∧
      eventsOf t.trace = eventsOf s.trace ++ (s.decidedRises ++ s.probeEvents) ∧
      t.exec = { s.exec with
        counter := t.exec.counter, stepOutbits := t.exec.stepOutbits, stepCount := s.exec.stepCount - 1
        segValid := t.exec.segValid } ∧
      t = { s with
        exec := t.exec, tail := t.tail, sysPosition := t.sysPosition
        lines := { s.lines with step := t.lines.step }, trace := t.trace }

/-- The tick that loads a segment (41_see_tick R177, R179 to R189): the timer, the block bound when new, the
increments, the spindle value, the first update of every axis, the events in their order; nothing else changes. -/
def Obligations.LoadingSegmentTick : Prop :=
  ∀ (f : Segment) (s : State), s.cfg.legal = true → s.exec.segValid = false →
    f.stBlockIndex.toNat < s.cfg.nBlk →
    ∃ t, exec (.seg f) s = .next t ∧
      t.timer.arr.toNat = max f.cyclesPerTick.toNat s.cfg.stepTimerMin ∧
      t.timer.ccr.toNat = 3 * t.timer.arr.toNat / 4 ∧
      t.timer = { s.timer with arr := t.timer.arr, ccr := t.timer.ccr } ∧
      t.spindlePwmOut = f.spindlePwm ∧ t.exec.blockIndex = f.stBlockIndex ∧ t.exec.blockValid = true ∧
      t.exec.stepCount = f.nStep - 1 ∧
      (f.nStep = 1 → t.exec.segValid = false ∧ t.tail.toNat = (s.tail.toNat + 1) % s.cfg.nSeg) ∧
      (f.nStep ≠ 1 → t.exec.segValid = true ∧ t.tail = s.tail) ∧
      (∀ i : Axis, i.val < s.cfg.nAxis →
        let isNew := s.exec.blockValid = false ∨ f.stBlockIndex ≠ s.exec.blockIndex
        let sec := s.blkSec f.stBlockIndex.toNat
        let inc := s.blkSteps f.stBlockIndex.toNat i.val >>> f.amassLevel.toNat
        let start := if isNew then sec >>> 1 else s.exec.counter.get i
        let old := s.sysPosition.get i
        let negative := (s.blkFlg f.stBlockIndex.toNat).getLsbD i.val
        t.exec.steps.get i = inc ∧
        (sec.toNat < (start + inc).toNat →
          t.exec.counter.get i = start + inc - sec ∧
          t.exec.stepOutbits.bit i = (!s.sysctl.homing || s.sysctl.homingLock.bit i) ∧
          t.sysPosition.get i = if f.backlashMotion then old else if negative then old - 1 else old + 1) ∧
        ((start + inc).toNat ≤ sec.toNat →
          t.exec.counter.get i = start + inc ∧ t.exec.stepOutbits.bit i = false ∧ t.sysPosition.get i = old) ∧
        (isNew → t.exec.dirOutbits.bit i = (negative ^^ s.dirInv.bit i) ∧
          t.lines.dir.bit i = (negative ^^ s.dirInv.bit i)) ∧
        (¬ isNew → t.exec.dirOutbits.bit i = s.exec.dirOutbits.bit i ∧ t.lines.dir.bit i = s.lines.dir.bit i) ∧
        t.lines.step.bit i = if s.exec.stepOutbits.bit i then !s.stepInv.bit i else s.lines.step.bit i) ∧
      eventsOf t.trace = eventsOf s.trace ++
        (s.decidedRises ++
          (if s.exec.blockValid = false ∨ f.stBlockIndex ≠ s.exec.blockIndex
            then s.directionChanges f.stBlockIndex.toNat else []) ++
          [.spindleWrite f.spindlePwm] ++ s.probeEvents) ∧
      t = { s with
        exec := t.exec, tail := t.tail, sysPosition := t.sysPosition, timer := t.timer
        lines := { s.lines with step := t.lines.step, dir := t.lines.dir }
        spindlePwmOut := t.spindlePwmOut, trace := t.trace }

/-- A segment that names no pool entry (41_see_tick R178, 60_exceptions R276): the engine fault. The steps already
decided are raised, the timer stops, the STEP lines idle, the flag is set and `STATUS.FAULT` reads 1; of ExecState only
the consumed step bits change, and nothing else. -/
def Obligations.BadIndexTakesTheFault : Prop :=
  ∀ (f : Segment) (s : State), s.exec.segValid = false → s.cfg.nBlk ≤ f.stBlockIndex.toNat →
    ∃ t, exec (.seg f) s = .next t ∧
      (∀ i : Axis, i.val < s.cfg.nAxis → t.lines.step.bit i = s.stepInv.bit i) ∧
      eventsOf t.trace = eventsOf s.trace ++ (s.decidedRises ++ s.fallsAfterPhaseA) ∧
      (∃ v : Word, exec .ldwStatus t = .next { t with hostResult := v } ∧ v.getLsbD 5 = true) ∧
      t = { s with
        exec := { s.exec with stepOutbits := 0 }
        timer := { s.timer with run := false }
        flags := { s.flags with faultBadidx := true }
        lines := { s.lines with step := t.lines.step }
        time := t.time, trace := t.trace }

/-- The ring-empty tick (41_see_tick R174, R175): the steps already decided are raised, the timer stops, the STEP lines
idle, the enable line follows the Disable rule with `ovr = 0`, the spindle is switched off after a rate-adjusted block,
`CYCLE_STOP` is raised; the events stand in the rule's order; nothing else changes. The Disable rule and the
polarity of the enable line are the spec's general knowledge (40_host_commands R139, PRESUMED, log 20). -/
def Obligations.EmptyRingTickShutsDown : Prop :=
  ∀ s : State, s.exec.segValid = false → s.head = s.tail →
    ∃ (t : State) (dis : Bool), exec .tick s = .next t ∧
      (dis = true ↔ (s.settings.idleLock.toNat ≠ 255 ∧ s.sysctl.homing = false)) ∧
      (∀ i : Axis, i.val < s.cfg.nAxis → t.lines.step.bit i = s.stepInv.bit i) ∧
      (let adjusted := s.exec.blockValid = true ∧ s.blkAdjusted s.exec.blockIndex.toNat = true
       t.spindlePwmOut = (if adjusted then s.cfg.spindlePwmOff else s.spindlePwmOut) ∧
       eventsOf t.trace = eventsOf s.trace ++
         (s.decidedRises ++ s.fallsAfterPhaseA ++ [.enSet (dis ^^ s.settings.invertStEnable)] ++
           (if adjusted then [.spindleWrite s.cfg.spindlePwmOff] else []) ++ [.cycleStop])) ∧
      t = { s with
        exec := { s.exec with stepOutbits := 0 }
        timer := { s.timer with run := false }
        flags := { s.flags with cycleStop := true }
        lines := { s.lines with
          step := t.lines.step, en := dis ^^ s.settings.invertStEnable, drvEnabled := !dis }
        spindlePwmOut := t.spindlePwmOut, time := t.time, trace := t.trace }

/-- The handler fetches `SEG[tail]` and executes one tick of it whenever a segment is bound or the ring is not empty
(41_see_tick R170, R173, R177; that one step of `SEG` is one of its ticks is read from R190, log 8). -/
def Obligations.TickExecutesTheSegmentAtTail : Prop :=
  ∀ s : State, (s.exec.segValid = true ∨ s.head ≠ s.tail) →
    exec .tick s = exec (.seg (decodeSegment (s.segW1 s.tail ++ s.segW0 s.tail))) s

/-- `PRESET` (42_pulse_reset_and_timer R210): every STEP line goes to its idle level, one `StepFall(i)` for each line
that was active and no other event, in increasing axis order; nothing else changes. -/
def Obligations.PresetIdlesStepLines : Prop :=
  ∀ s : State, ∃ t, exec .preset s = .next t ∧
    (∀ i : Axis, i.val < s.cfg.nAxis → t.lines.step.bit i = s.stepInv.bit i) ∧
    t = { s with
      lines := { s.lines with step := t.lines.step }
      trace := s.trace ++ (s.cfg.axes.filter fun i => s.stepActive i).map fun i => ⟨s.time, .stepFall i⟩ }

/-- Every tick emits exactly the steps decided before it (41_see_tick R171, R172): one `StepRise(i)` for each axis
whose bit is set and whose line is idle, none for any other, on every path of the handler. -/
def Obligations.TickRaisesTheDecidedSteps : Prop :=
  ∀ s t : State, exec .tick s = .next t →
    ∃ es : List TraceEntry, t.trace = s.trace ++ es ∧
      ∀ i : Axis, countEvent (.stepRise i) es =
        if decide (i.val < s.cfg.nAxis) && s.exec.stepOutbits.bit i && !s.stepActive i then 1 else 0

/-- The probe strobe (41_see_tick R188): once per tick while `PROBE_ACTIVE` is 1, at either poll point, and not on
the ring-empty path or on a fault. -/
def Obligations.ProbeStrobeOncePerTick : Prop :=
  ∀ s t : State, exec .tick s = .next t →
    ∃ es : List TraceEntry, t.trace = s.trace ++ es ∧
      countEvent .probePoll es =
        if s.sysctl.probeActive = true ∧
            (s.exec.segValid = true ∨
              (s.head ≠ s.tail ∧ (s.segment s.tail).stBlockIndex.toNat < s.cfg.nBlk)) then 1
        else 0

/-- One accumulator update (41_see_tick R185, R191, R193, R195): modulo 2^32, unsigned and strict in general; exact and
kept inside `1..sec` for a well-formed block; half the event count lies in `1..sec` exactly when that count is at
least 2. -/
def Obligations.AccumulatorStaysInRange : Prop :=
  (∀ sec : Word, (1 ≤ (sec >>> 1).toNat ∧ (sec >>> 1).toNat ≤ sec.toNat) ↔ 2 ≤ sec.toNat) ∧
  (∀ c inc sec : Word,
    (bresenham c inc sec).step = decide (sec.toNat < (c.toNat + inc.toNat) % 2 ^ 32) ∧
    ((bresenham c inc sec).step = false → (bresenham c inc sec).acc.toNat = (c.toNat + inc.toNat) % 2 ^ 32) ∧
    ((bresenham c inc sec).step = true →
      (bresenham c inc sec).acc.toNat + sec.toNat = (c.toNat + inc.toNat) % 2 ^ 32)) ∧
  ∀ c inc sec : Word, inc.toNat ≤ sec.toNat → sec.toNat < 2 ^ 31 → 1 ≤ c.toNat → c.toNat ≤ sec.toNat →
    (bresenham c inc sec).acc.toNat + (if (bresenham c inc sec).step then sec.toNat else 0) =
      c.toNat + inc.toNat ∧
    1 ≤ (bresenham c inc sec).acc.toNat ∧ (bresenham c inc sec).acc.toNat ≤ sec.toNat

/-- A position steps over the end of its range without a flag and without a fault (41_see_tick R194). -/
def Obligations.PositionWrapsWithoutFault : Prop :=
  ∀ (f : Segment) (s : State) (i : Axis), s.cfg.legal = true → s.exec.segValid = true → i.val < s.cfg.nAxis →
    f.backlashMotion = false →
    (s.blkSec s.exec.blockIndex.toNat).toNat < (s.exec.counter.get i + s.exec.steps.get i).toNat →
    let negative := (s.blkFlg s.exec.blockIndex.toNat).getLsbD i.val
    (negative = false → (s.sysPosition.get i).toInt = 2 ^ 31 - 1 →
      ∃ t, exec (.seg f) s = .next t ∧ (t.sysPosition.get i).toInt = -2 ^ 31 ∧ t.flags = s.flags) ∧
    (negative = true → (s.sysPosition.get i).toInt = -2 ^ 31 →
      ∃ t, exec (.seg f) s = .next t ∧ (t.sysPosition.get i).toInt = 2 ^ 31 - 1 ∧ t.flags = s.flags)

/-- A run of `n` ticks at one increment balances (41_see_tick R195 and section 7): what is added is either still in
the accumulator or was taken out by a step, and the accumulator stays in `1..sec`. -/
def Obligations.TracerRunBalances : Prop :=
  ∀ (n : Nat) (c inc sec : Word), inc.toNat ≤ sec.toNat → sec.toNat < 2 ^ 31 → 1 ≤ c.toNat → c.toNat ≤ sec.toNat →
    (bresenhamRun inc sec n c).1.toNat + (bresenhamRun inc sec n c).2 * sec.toNat = c.toNat + n * inc.toNat ∧
    1 ≤ (bresenhamRun inc sec n c).1.toNat ∧ (bresenhamRun inc sec n c).1.toNat ≤ sec.toNat ∧
    (bresenhamRun inc sec n c).2 ≤ n

/-- A segment as one instruction (41_see_tick R189, R190): it stays bound for `n_step` ticks (65536 for 0), counting
down, and the last of them retires its slot; the timer and the spindle keep what the first one set. -/
def Obligations.SegmentRunsItsTicks : Prop :=
  ∀ (s : State) (f : Segment), s.cfg.legal = true → s.exec.segValid = false → s.head ≠ s.tail →
    f = s.segment s.tail → f.stBlockIndex.toNat < s.cfg.nBlk →
    (∀ k, 0 < k → k < f.ticks →
      (s.ticks k).exec.segValid = true ∧ (s.ticks k).tail = s.tail ∧
      (s.ticks k).exec.stepCount.toNat = f.ticks - k ∧ (s.ticks k).exec.blockIndex = f.stBlockIndex) ∧
    (s.ticks f.ticks).exec.segValid = false ∧
    (s.ticks f.ticks).tail.toNat = (s.tail.toNat + 1) % s.cfg.nSeg ∧
    (s.ticks f.ticks).timer.arr.toNat = max f.cyclesPerTick.toNat s.cfg.stepTimerMin ∧
    (s.ticks f.ticks).spindlePwmOut = f.spindlePwm

/-- Step conservation (41_see_tick section 7, from R181, R183, R185, R186, R195): a well-formed block executed by
well-formed consecutive segments of any AMASS levels that together deliver its event count moves every axis by exactly
its planned count, in its direction, and leaves every accumulator where it started. -/
def Obligations.StepConservation : Prop :=
  ∀ (s : State) (fs : List Segment) (b : BitVec 8) (events : Nat) (counts : Axis → Nat),
    s.cfg.legal = true → s.RingInv → s.exec.segValid = false → s.Queued fs →
    (∀ f ∈ fs, s.cfg.WellFormedSegment f ∧ f.stBlockIndex = b ∧ f.backlashMotion = false) →
    s.WellFormedBlock b.toNat events counts → (fs.map Segment.delivers).sum = events →
    (s.exec.blockValid = false ∨ s.exec.blockIndex ≠ b) →
    let t := s.ticks (fs.map fun f => f.nStep.toNat).sum
    t.exec.segValid = false ∧ t.tail.toNat = (s.tail.toNat + fs.length) % s.cfg.nSeg ∧
    ∀ i : Axis, i.val < s.cfg.nAxis →
      t.sysPosition.get i =
        (if (s.blkFlg b.toNat).getLsbD i.val then s.sysPosition.get i - BitVec.ofNat 32 (counts i)
         else s.sysPosition.get i + BitVec.ofNat 32 (counts i)) ∧
      (t.exec.counter.get i).toNat = events * 2 ^ s.cfg.maxAmassLevel / 2

/-! ## The timer -/

/-- One whole period (42_pulse_reset_and_timer R213, R215): from count 0 the only event before `ccr` clocks is none,
at clock `ccr` it is `PRESET`, then none again, and at clock `arr` it is `TICK`, with the count back at 0. -/
def Obligations.PeriodIsOnePresetThenOneTick : Prop :=
  ∀ s : State, s.cfg.legal = true → s.TimerInv → s.timer.run = true → s.timer.tcnt = 0 → s.inputs = [] →
    (∀ k, k < s.timer.ccr.toNat →
      Sys2Proof.core.run k s =
        .next { s with timer := { s.timer with tcnt := BitVec.ofNat 16 k }, time := s.time + k }) ∧
    ∃ u : State,
      exec .preset { s with
        timer := { s.timer with tcnt := s.timer.ccr }, time := s.time + s.timer.ccr.toNat } = .next u ∧
      (∀ k, s.timer.ccr.toNat ≤ k → k < s.timer.arr.toNat →
        Sys2Proof.core.run k s =
          .next { u with timer := { u.timer with tcnt := BitVec.ofNat 16 k }, time := s.time + k }) ∧
      Sys2Proof.core.run s.timer.arr.toNat s =
        exec .tick { u with timer := { u.timer with tcnt := 0 }, time := s.time + s.timer.arr.toNat }

/-- The untimed abstraction (42_pulse_reset_and_timer R218), for the state each step leads to. A clock of a running timer:
before the compare only `PRESET` can come and it moves the phase on, after it only `TICK` and it moves the phase back,
whatever reload it loads, and a clock that enables neither leaves the phase. A clock of a stopped timer: neither comes
and the phase stays. A host transaction leaves the phase, but for `INIT`, `RESET` and a `WAKE` that starts the timer,
which set the first phase, as does a power-on. The same for every instruction by itself. (The list of inputs is the
model's, log 3.) -/
def Obligations.TimerRefinesPhaseAbstraction : Prop :=
  ∀ (s : State) (rest : List Input), s.cfg.legal = true → s.TimerInv →
    (s.timer.run = true → (s.inputs = .clk :: rest ∨ (s.inputs = [] ∧ rest = [])) →
      ∃ u t : State, u = { s with inputs := rest, timer := { s.timer with tcnt := u.timer.tcnt }, time := s.time + 1 } ∧
        step s = .next t ∧
        ((s.phase = .beforeCmp ∧ t.phase = .afterCmp ∧ step s = exec .preset u ∧ u.timer.tcnt = s.timer.tcnt + 1) ∨
          (s.phase = .afterCmp ∧ t.phase = .beforeCmp ∧ step s = exec .tick u ∧ u.timer.tcnt = 0) ∨
          (t.phase = s.phase ∧ t = u ∧ u.timer.tcnt = s.timer.tcnt + 1))) ∧
    (s.timer.run = false → (s.inputs = .clk :: rest ∨ (s.inputs = [] ∧ rest = [])) →
      ∃ t : State, step s = .next t ∧ t = { s with inputs := rest, time := s.time + 1 } ∧ t.phase = s.phase) ∧
    (∀ x : HostTxn, s.inputs = .host x :: rest →
      ∃ t : State, step s = .next t ∧
        t.phase =
          if x.width = .word ∧ x.we = true ∧ x.addr = 0x000 ∧
              (x.data = 0x00000001 ∨ x.data = 0x00000004 ∨
                (x.data = 0x00000002 ∧ s.timer.run = false ∧ s.flags.faultBadidx = false)) then .beforeCmp
          else s.phase) ∧
    (s.inputs = .powerOn :: rest → ∃ t : State, step s = .next t ∧ t.phase = .beforeCmp) ∧
    (s.timer.run = false → s.flags.faultBadidx = false →
      ∃ t, exec .wake s = .next t ∧ t.timer.run = true ∧ t.phase = .beforeCmp) ∧
    (∃ t, exec .init s = .next t ∧ t.phase = .beforeCmp) ∧
    (∃ t, exec .reset s = .next t ∧ t.phase = .beforeCmp) ∧
    ∀ i : Instr, i ≠ .tick → (∀ f, i ≠ .seg f) → i ≠ .init → i ≠ .stwCmd 1 → i ≠ .reset → i ≠ .stwCmd 4 →
      ¬ ((i = .wake ∨ i = .stwCmd 2) ∧ s.timer.run = false ∧ s.flags.faultBadidx = false) →
      ∃ t, exec i s = .next t ∧ t.phase = s.phase

/-- The compare value (42_pulse_reset_and_timer R214): three quarters of the reload rounded down, strictly inside the
period; the rule's examples. -/
def Obligations.CompareLiesInsideThePeriod : Prop :=
  (∀ arr : Half, (compareOf arr).toNat = 3 * arr.toNat / 4) ∧
  (∀ arr : Half, 4 ≤ arr.toNat → 3 ≤ (compareOf arr).toNat ∧ (compareOf arr).toNat < arr.toNat) ∧
  compareOf 400 = 300 ∧ compareOf 2000 = 1500 ∧ compareOf 4001 = 3000 ∧ compareOf 65535 = 49151 ∧ compareOf 4 = 3

/-! ## Who may write what -/

/-- 10_state R38, R51: positions and the spindle value are written by the engine alone; no host instruction, `RESET`
included, and no `PRESET` changes them. -/
def Obligations.OnlyTheEngineMovesPositions : Prop :=
  ∀ (i : Instr) (s t : State), exec i s = .next t → i ≠ .tick → (∀ f, i ≠ .seg f) →
    t.sysPosition = s.sysPosition ∧ t.spindlePwmOut = s.spindlePwmOut

/-- 10_state R20, R28, R30: ExecState and `tail` are private to the engine but for `RESET`. -/
def Obligations.ExecStateIsPrivate : Prop :=
  ∀ (i : Instr) (s t : State), exec i s = .next t → i ≠ .tick → (∀ f, i ≠ .seg f) → i ≠ .reset → i ≠ .stwCmd 4 →
    t.exec = s.exec ∧ t.tail = s.tail

/-- Who drives the lines (42_pulse_reset_and_timer R212, R219, R223): DIR by the engine and `RESET`; the enable line
by `WAKE`, `DISABLE` and the ring-empty tick; `pins_driven` by `INIT`. -/
def Obligations.LinesHaveTheirWriters : Prop :=
  ∀ (i : Instr) (s t : State), exec i s = .next t →
    ((i ≠ .tick ∧ (∀ f, i ≠ .seg f) ∧ i ≠ .reset ∧ i ≠ .stwCmd 4) → t.lines.dir = s.lines.dir) ∧
    ((i ≠ .wake ∧ (∀ o, i ≠ .disable o) ∧ i ≠ .stwCmd 2 ∧ i ≠ .stwCmd 3 ∧ i ≠ .stwCmd 0x103 ∧
        ¬ (i = .tick ∧ s.exec.segValid = false ∧ s.head = s.tail)) →
      t.lines.en = s.lines.en ∧ t.lines.drvEnabled = s.lines.drvEnabled) ∧
    ((i ≠ .init ∧ i ≠ .stwCmd 1) → t.lines.pinsDriven = s.lines.pinsDriven)

/-- The output trace only grows, in time order (00_scope R14; the time stamps are the model's own, log 7). -/
def Obligations.TraceOnlyGrows : Prop :=
  ∀ (i : Instr) (s t : State), exec i s = .next t →
    s.time ≤ t.time ∧
    ∃ es : List TraceEntry, t.trace = s.trace ++ es ∧ (∀ e ∈ es, s.time ≤ e.time ∧ e.time ≤ t.time) ∧
      es.Pairwise fun x y => x.time ≤ y.time

/-- The configuration is a constant of the run, and only a legal one has a next state (00_scope R5 to R8; that it is a
field of the state, and that a step of a rejected one is a fault, are the model's choices, log 1 and log 17). -/
def Obligations.ConfigurationIsConstant : Prop :=
  ∀ s t : State, step s = .next t → t.cfg = s.cfg ∧ s.cfg.legal = true

/-- Flags are sticky (10_state R35): a set flag stays set but for a write of 1 to its bit (never `FAULT_BADIDX`), for
`RESET` and for power-on. -/
def Obligations.FlagsAreSticky : Prop :=
  ∀ (s t : State) (c : Cause), step s = .next t → s.flags.get c = true →
    t.flags.get c = true ∨
    (∃ d rest, s.inputs = .host ⟨true, 0x008, d, .word⟩ :: rest ∧ d.getLsbD c.code = true ∧ c ≠ .faultBadidx) ∨
    (∃ rest, s.inputs = .host ⟨true, 0x000, 0x00000004, .word⟩ :: rest) ∨ ∃ rest, s.inputs = .powerOn :: rest

/-! ## Invariants of every step -/

/-- Every step keeps the ring invariant (20_memory R94). -/
def Obligations.StepKeepsRingInv : Prop :=
  ∀ s t : State, s.RingInv → step s = .next t → t.RingInv

/-- The ring as a state machine (20_memory R94): a step leaves the indices, publishes (count up by one, never from
full), retires (count down by one), or empties the ring; the count never exceeds `N_SEG - 1`. -/
def Obligations.RingTransitions : Prop :=
  ∀ s t : State, s.RingInv → step s = .next t →
    t.count ≤ s.cfg.nSeg - 1 ∧
    ((t.head = s.head ∧ t.tail = s.tail ∧ t.count = s.count) ∨
     (t.head.toNat = (s.head.toNat + 1) % s.cfg.nSeg ∧ t.tail = s.tail ∧ t.count = s.count + 1 ∧
        s.count < s.cfg.nSeg - 1) ∨
     (t.head = s.head ∧ t.tail.toNat = (s.tail.toNat + 1) % s.cfg.nSeg ∧ t.count + 1 = s.count) ∨
     (t.head = 0 ∧ t.tail = 0 ∧ t.count = 0))

/-- Every step keeps the timer invariant (42_pulse_reset_and_timer R213, R214): `arr` never below its minimum, `ccr`
three quarters of it, the count inside the period. -/
def Obligations.StepKeepsTimerInv : Prop :=
  ∀ s t : State, s.TimerInv → step s = .next t → t.TimerInv

/-- Every step keeps the mask invariant (10_state R43, R44, R47, 30_encoding R106; that absent places hold 0 is the
model's choice, log 11). -/
def Obligations.StepKeepsMaskInv : Prop :=
  ∀ s t : State, s.MaskInv → step s = .next t → t.MaskInv

/-- Every step keeps the memories canonical and inside the address map (20_memory R70, R76; the form is the model's,
log 23). -/
def Obligations.StepKeepsMemoryInv : Prop :=
  ∀ s t : State, s.RingInv → s.MemoryInv → step s = .next t → t.MemoryInv

/-- Every step keeps the block invariant (10_state R24, R25, 41_see_tick R178). -/
def Obligations.StepKeepsBlockInv : Prop :=
  ∀ s t : State, s.BlockInv → step s = .next t → t.BlockInv

/-- Every step keeps the fault invariant (60_exceptions R277, R278, 70_reset_and_hazards R317): a faulted engine is
halted on the bad slot. -/
def Obligations.StepKeepsFaultInv : Prop :=
  ∀ s t : State, s.FaultInv → step s = .next t → t.FaultInv

/-- The POR state of every legal configuration meets every invariant (70_reset_and_hazards R300). -/
def Obligations.PowerOnMeetsTheInvariants : Prop :=
  ∀ (c : Config) (n : Nat), c.legal = true →
    (State.powerOn c n).RingInv ∧ (State.powerOn c n).BlockInv ∧ (State.powerOn c n).TimerInv ∧
    (State.powerOn c n).MaskInv ∧ (State.powerOn c n).MemoryInv ∧ (State.powerOn c n).FaultInv

/-- The POR values (70_reset_and_hazards R300, 10_state R60; that reset is of the reference configuration is the model's
choice, log 1, and that unspecified contents are an empty list is its form of a free value, log 2), and a step that
takes a power-on reset leads to the POR state of the same configuration (the model's choice, log 13). -/
def Obligations.PowerOnValues : Prop :=
  State.reset.exec = ⟨AxisVec.fill 0, AxisVec.fill 0, 0, 0, false, false, 0, 0⟩ ∧
  State.reset.head = 0 ∧ State.reset.tail = 0 ∧ State.reset.flags = ⟨false, false, false, false, false⟩ ∧
  State.reset.sysPosition = AxisVec.fill 0 ∧ State.reset.settings = ⟨0, 0, false, false, 0⟩ ∧
  State.reset.sysctl = ⟨false, false, 0⟩ ∧ State.reset.stepInv = 0 ∧ State.reset.dirInv = 0 ∧
  State.reset.timer = ⟨0, 400, 300, false⟩ ∧ State.reset.lines = ⟨0, 0, true, false, false⟩ ∧
  State.reset.spindlePwmOut = 0 ∧
  (∀ a, State.reset.pool.read a = none ∧ State.reset.ring.read a = none) ∧
  ∀ (s : State) (rest : List Input), s.cfg.legal = true → s.inputs = .powerOn :: rest →
    step s = .next { State.powerOn s.cfg (s.epoch + 1) with inputs := rest }

/-- 00_scope R6 to R8: a configuration with `N_SEG < 3`, `MAX_AMASS_LEVEL < 1` or `STEP_TIMER_MIN` outside 4..65535 is
rejected. That a rejected configuration is a fault of `step` is the model's choice (log 17). -/
def Obligations.BadConfigurationRejected : Prop :=
  ∀ s : State,
    (s.cfg.nSeg < 3 ∨ s.cfg.maxAmassLevel < 1 ∨
      (s.cfg.maxStepRateHz = none ∧
        (s.cfg.fTimerStepper / 60000 < 4 ∨ 65535 < s.cfg.fTimerStepper / 60000)) ∨
      (∃ r, s.cfg.maxStepRateHz = some r ∧ (s.cfg.fTimerStepper / r < 4 ∨ 65535 < s.cfg.fTimerStepper / r))) →
    step s = .fault .configRejected

/-- The mirrored lines (42_pulse_reset_and_timer R220, R223): absent with the option off, else, once the pins are
driven, the levels of axis 0 or 1, which are then the levels of the latches. The pair of axis 1 is there also where axis
1 does not exist; its levels are then free values, so nothing is stated of them (the model's choice, log 25). -/
def Obligations.MirroredLinesFollow : Prop :=
  ∀ s : State, s.lines.pinsDriven = true →
    s.mirrorX = (if s.cfg.dualX then some (s.stepWire 0, s.dirWire 0) else none) ∧
    (1 < s.cfg.nAxis → s.mirrorY = if s.cfg.dualY then some (s.stepWire 1, s.dirWire 1) else none) ∧
    (s.mirrorY = none ↔ s.cfg.dualY = false) ∧
    (∀ i : Axis, s.stepWire i = s.lines.step.bit i ∧ s.dirWire i = s.lines.dir.bit i) ∧ s.enWire = s.lines.en

/-! ## Steps and encodings -/

/-- A step that takes a host transaction runs the instruction it decodes to, on the state with that transaction taken
from the inputs; a command write runs the command itself, or `STW.CMD` when it encodes none (30_encoding R99, R107,
20_memory R90; the list of inputs is the model's, log 3). -/
def Obligations.StepRunsTheHostInstruction : Prop :=
  ∀ (s : State) (x : HostTxn) (rest : List Input) (i : Instr), s.cfg.legal = true → s.inputs = .host x :: rest →
    x.width = .word →
    (decode (.mmio x.we x.addr x.data) = .ok i → (∀ d, i ≠ .stwCmd d) → step s = exec i { s with inputs := rest }) ∧
    (x.we = true → x.addr = 0x000 → decode (.cmd32 x.data) = .ok i → step s = exec i { s with inputs := rest }) ∧
    (x.we = true → x.addr = 0x000 → decode (.cmd32 x.data) = .error .illegalCommand →
      step s = exec (.stwCmd x.data) { s with inputs := rest })

/-- A step that takes a timer clock (42_pulse_reset_and_timer R213; the list of inputs, empty for a clock, is the
model's, log 3): at the period end the instruction decoded from `SEG[tail]`, or `TICK` when there is none; at the
compare `PRESET`; otherwise the count goes up; a stopped timer does nothing. -/
def Obligations.StepRunsTheTimerEvent : Prop :=
  ∀ (s : State) (rest : List Input), s.cfg.legal = true → (s.inputs = .clk :: rest ∨ (s.inputs = [] ∧ rest = [])) →
    (s.timer.run = false → step s = .next { s with inputs := rest, time := s.time + 1 }) ∧
    (s.timer.run = true → s.timer.tcnt + 1 = s.timer.arr →
      let u := { s with inputs := rest, time := s.time + 1, timer := { s.timer with tcnt := 0 } }
      (∀ i, (s.exec.segValid = true ∨ s.head ≠ s.tail) → decode (.seg64 (s.segWord s.tail)) = .ok i →
        step s = exec i u) ∧
      (s.exec.segValid = false → s.head = s.tail → step s = exec .tick u)) ∧
    (s.timer.run = true → s.timer.tcnt + 1 ≠ s.timer.arr →
      let u := { s with
        inputs := rest, time := s.time + 1, timer := { s.timer with tcnt := s.timer.tcnt + 1 } }
      step s = if s.timer.tcnt + 1 = s.timer.ccr then exec .preset u else .next u)

/-- Decode and encode agree: every well-formed instruction that has an encoding decodes from its word to itself, and
only `TICK` and `PRESET` have none (30_encoding R99, R111). -/
def Obligations.DecodeEncodeAgree : Prop :=
  (∀ (i : Instr) (w : Encoded), WellFormed i = true → encode i = some w → decode w = .ok i) ∧
  ∀ i : Instr, encode i = none ↔ (i = .tick ∨ i = .preset)

/-- The other direction: a word that decodes gives a well-formed instruction whose own word is the same, but for the
reserved bits 47..45 of a segment and the unused data of a read (30_encoding R100, R104, R105, R106). -/
def Obligations.DecodedWordsReencode : Prop :=
  ∀ (w : Encoded) (i : Instr), decode w = .ok i →
    WellFormed i = true ∧
    encode i = some (match w with
      | .seg64 x => .seg64 (x &&& 0xFFFF1FFFFFFFFFFF)
      | .cmd32 x => .cmd32 x
      | .mmio we addr data => .mmio we addr (if we then data else 0))

/-- Words of the spec decode to what the spec says they are: the worked encoding of 30_encoding section 8 and another
segment word; every row of the command map (30_encoding R104) and words next to them (30_encoding R107); every row of
the address map (20_memory R76), read and written, with its array rows at every index; an address of the gap. That an
array row's index is checked by the access and not by the decoder is read from the spec (30_encoding R105; log 10). -/
def Obligations.SpecWordsDecode : Prop :=
  (decode (.seg64 0x0064010107D00002) = .ok (.seg ⟨2, 2000, 1, 1, false, 100⟩) ∧
    decode (.seg64 0x0000100203E80001) = .ok (.seg ⟨1, 1000, 2, 0, true, 0⟩)) ∧
  (decode (.cmd32 0x00000001) = .ok .init ∧ decode (.cmd32 0x00000002) = .ok .wake ∧
    decode (.cmd32 0x00000003) = .ok (.disable false) ∧ decode (.cmd32 0x00000103) = .ok (.disable true) ∧
    decode (.cmd32 0x00000004) = .ok .reset ∧ decode (.cmd32 0x00000005) = .ok .genmask ∧
    decode (.cmd32 0x00000006) = .ok .publish ∧ decode (.cmd32 0x00000007) = .error .illegalCommand ∧
    decode (.cmd32 0x00000102) = .error .illegalCommand ∧ decode (.cmd32 0x00000203) = .error .illegalCommand) ∧
  (∀ d : Word,
    decode (.mmio false 0x000 d) = .error .writeOnly ∧ decode (.mmio true 0x000 d) = .ok (.stwCmd d) ∧
    decode (.mmio false 0x004 d) = .ok .ldwStatus ∧ decode (.mmio true 0x004 d) = .error .readOnly ∧
    decode (.mmio false 0x008 d) = .ok .ldwFlags ∧ decode (.mmio true 0x008 d) = .ok (.stwFlags d) ∧
    decode (.mmio false 0x00C d) = .ok .ldwHead ∧ decode (.mmio true 0x00C d) = .error .readOnly ∧
    decode (.mmio false 0x010 d) = .ok .ldwTail ∧ decode (.mmio true 0x010 d) = .error .readOnly ∧
    decode (.mmio false 0x014 d) = .ok .ldwSetStepInv ∧ decode (.mmio true 0x014 d) = .ok (.stwSetStepInv d) ∧
    decode (.mmio false 0x018 d) = .ok .ldwSetDirInv ∧ decode (.mmio true 0x018 d) = .ok (.stwSetDirInv d) ∧
    decode (.mmio false 0x01C d) = .ok .ldwSetFlags ∧ decode (.mmio true 0x01C d) = .ok (.stwSetFlags d) ∧
    decode (.mmio false 0x020 d) = .ok .ldwSetIdleLock ∧ decode (.mmio true 0x020 d) = .ok (.stwSetIdleLock d) ∧
    decode (.mmio false 0x024 d) = .ok .ldwSysctl ∧ decode (.mmio true 0x024 d) = .ok (.stwSysctl d) ∧
    decode (.mmio false 0x028 d) = .ok .ldwSegw0 ∧ decode (.mmio true 0x028 d) = .ok (.stwSegw0 d) ∧
    decode (.mmio false 0x02C d) = .ok .ldwSegw1 ∧ decode (.mmio true 0x02C d) = .ok (.stwSegw1 d) ∧
    decode (.mmio false 0x030 d) = .ok .ldwStepInv ∧ decode (.mmio true 0x030 d) = .error .readOnly ∧
    decode (.mmio false 0x034 d) = .ok .ldwDirInv ∧ decode (.mmio true 0x034 d) = .error .readOnly ∧
    decode (.mmio false 0x038 d) = .ok .ldwPins ∧ decode (.mmio true 0x038 d) = .error .readOnly ∧
    decode (.mmio false 0x03C d) = .ok .ldwSpindle ∧ decode (.mmio true 0x03C d) = .error .readOnly ∧
    decode (.mmio false 0x060 d) = .ok .ldwTimArr ∧ decode (.mmio true 0x060 d) = .error .readOnly ∧
    decode (.mmio false 0x064 d) = .ok .ldwTimCcr ∧ decode (.mmio true 0x064 d) = .error .readOnly ∧
    decode (.mmio false 0x068 d) = .ok .ldwTimCnt ∧ decode (.mmio true 0x068 d) = .error .readOnly ∧
    decode (.mmio false 0x06C d) = .error .unmapped ∧ decode (.mmio true 0x06C d) = .error .unmapped ∧
    decode (.mmio false 0x0FC d) = .error .unmapped) ∧
  (∀ (i : BitVec 3) (addr : BitVec 12) (d : Word), addr.toNat = 0x040 + 4 * i.toNat →
    decode (.mmio false addr d) = .ok (.ldwPos i) ∧ decode (.mmio true addr d) = .error .readOnly) ∧
  ∀ (b : BitVec 7) (addr : BitVec 12) (d : Word),
    (addr.toNat = 0x100 + 0x20 * b.toNat + 0x00 →
      decode (.mmio false addr d) = .ok (.ldwBlkSec b) ∧ decode (.mmio true addr d) = .ok (.stwBlkSec b d)) ∧
    (addr.toNat = 0x100 + 0x20 * b.toNat + 0x04 →
      decode (.mmio false addr d) = .ok (.ldwBlkFlg b) ∧ decode (.mmio true addr d) = .ok (.stwBlkFlg b d)) ∧
    (addr.toNat = 0x100 + 0x20 * b.toNat + 0x08 →
      decode (.mmio false addr d) = .ok (.ldwBlkSteps0 b) ∧ decode (.mmio true addr d) = .ok (.stwBlkSteps0 b d)) ∧
    (addr.toNat = 0x100 + 0x20 * b.toNat + 0x0C →
      decode (.mmio false addr d) = .ok (.ldwBlkSteps1 b) ∧ decode (.mmio true addr d) = .ok (.stwBlkSteps1 b d)) ∧
    (addr.toNat = 0x100 + 0x20 * b.toNat + 0x10 →
      decode (.mmio false addr d) = .ok (.ldwBlkSteps2 b) ∧ decode (.mmio true addr d) = .ok (.stwBlkSteps2 b d)) ∧
    (addr.toNat = 0x100 + 0x20 * b.toNat + 0x14 →
      decode (.mmio false addr d) = .ok (.ldwBlkSteps3 b) ∧ decode (.mmio true addr d) = .ok (.stwBlkSteps3 b d)) ∧
    (addr.toNat = 0x100 + 0x20 * b.toNat + 0x18 →
      decode (.mmio false addr d) = .ok (.ldwBlkSteps4 b) ∧ decode (.mmio true addr d) = .ok (.stwBlkSteps4 b d)) ∧
    (addr.toNat = 0x100 + 0x20 * b.toNat + 0x1C →
      decode (.mmio false addr d) = .ok (.ldwBlkSteps5 b) ∧ decode (.mmio true addr d) = .ok (.stwBlkSteps5 b d))

/-- Every 64-bit value decodes as a segment, each field the unsigned integer its bits hold (30_encoding R100,
R101). -/
def Obligations.SegmentFieldsAreTheirBits : Prop :=
  ∀ w : SegWord, ∃ f : Segment, decode (.seg64 w) = .ok (.seg f) ∧
    f.nStep.toNat = w.toNat % 2 ^ 16 ∧ f.cyclesPerTick.toNat = w.toNat / 2 ^ 16 % 2 ^ 16 ∧
    f.stBlockIndex.toNat = w.toNat / 2 ^ 32 % 2 ^ 8 ∧ f.amassLevel.toNat = w.toNat / 2 ^ 40 % 2 ^ 4 ∧
    f.backlashMotion = decide (w.toNat / 2 ^ 44 % 2 = 1) ∧ f.spindlePwm.toNat = w.toNat / 2 ^ 48
end

