-- ==== Sys2Proof/Laws/Bits.lean ====
section
/-! SUPPORT. Laws of the per-axis vector, the axis masks and the derived parameters. -/

namespace Sys2Proof

@[simp] theorem AxisVec.get_ofFn {α : Type} (f : Axis → α) (i : Axis) : (AxisVec.ofFn f).get i = f i := by
  fin_cases i <;> rfl

@[simp] theorem AxisVec.get_fill {α : Type} (x : α) (i : Axis) : (AxisVec.fill x).get i = x := by
  fin_cases i <;> rfl

/-- Two vectors with the same value on every axis are equal. -/
theorem AxisVec.ext_get {α : Type} {v w : AxisVec α} (h : ∀ i, v.get i = w.get i) : v = w := by
  have h0 := h 0; have h1 := h 1; have h2 := h 2; have h3 := h 3; have h4 := h 4; have h5 := h 5
  cases v; cases w
  simp only [AxisVec.get] at *
  subst h0 h1 h2 h3 h4 h5
  rfl

@[simp] theorem AxisBits.bit_ofFn (f : Axis → Bool) (i : Axis) : (AxisBits.ofFn f).bit i = f i := by
  simp [AxisBits.ofFn, AxisBits.bit]

@[simp] theorem AxisBits.bit_and (a b : AxisBits) (i : Axis) :
    AxisBits.bit (a &&& b) i = (a.bit i && b.bit i) := by
  simp [AxisBits.bit]

@[simp] theorem AxisBits.bit_or (a b : AxisBits) (i : Axis) :
    AxisBits.bit (a ||| b) i = (a.bit i || b.bit i) := by
  simp [AxisBits.bit]

@[simp] theorem AxisBits.bit_xor (a b : AxisBits) (i : Axis) :
    AxisBits.bit (a ^^^ b) i = (a.bit i ^^ b.bit i) := by
  simp [AxisBits.bit]

@[simp] theorem AxisBits.bit_not (a : AxisBits) (i : Axis) : AxisBits.bit (~~~a) i = !a.bit i := by
  simp [AxisBits.bit]

@[simp] theorem AxisBits.bit_zero (i : Axis) : AxisBits.bit 0#6 i = false := by
  simp [AxisBits.bit]

/-- Two masks with the same bit on every axis are equal. -/
theorem AxisBits.ext_bit {a b : AxisBits} (h : ∀ i : Axis, a.bit i = b.bit i) : a = b := by
  apply BitVec.eq_of_getLsbD_eq
  intro i hi
  exact h ⟨i, hi⟩

@[simp] theorem Config.axisMask_bit (c : Config) (i : Axis) : c.axisMask.bit i = c.hasAxis i := by
  simp [Config.axisMask]

/-- A mask holds bits of existing axes only exactly when masking changes nothing. -/
theorem AxisBits.and_axisMask_eq_self {c : Config} {a : AxisBits} :
    a &&& c.axisMask = a ↔ ∀ i, a.bit i = true → c.hasAxis i = true := by
  constructor
  · intro h i hi
    rw [← h] at hi
    simpa using And.right (by simpa using hi)
  · intro h
    apply AxisBits.ext_bit
    intro i
    have := h i
    cases ha : a.bit i <;> simp_all

/-- The axis loop visits exactly the existing axes. -/
@[simp] theorem Config.mem_axes (c : Config) (i : Axis) : i ∈ c.axes ↔ c.hasAxis i = true := by
  fin_cases i <;> simp [Config.axes]

/-- What legality says, part by part (00_scope R5 to R8). -/
theorem Config.legal_iff (c : Config) :
    c.legal = true ↔
      (1 ≤ c.nAxis ∧ c.nAxis ≤ 6) ∧ (3 ≤ c.nSeg ∧ c.nSeg ≤ 64) ∧ (1 ≤ c.maxAmassLevel ∧ c.maxAmassLevel ≤ 15) ∧
        1 ≤ c.fTimerStepper ∧ 1 ≤ c.maxStepRateHz.getD 1 ∧ (4 ≤ c.stepTimerMin ∧ c.stepTimerMin ≤ 65535) := by
  simp [Config.legal, and_assoc]

/-- The compare is three quarters of the reload, rounded down; nothing is lost to its 16 bits. -/
theorem compareOf_toNat (arr : Half) : (compareOf arr).toNat = 3 * arr.toNat / 4 := by
  have := arr.isLt
  simp only [compareOf, BitVec.toNat_ofNat, Nat.shiftRight_eq_div_pow]
  omega

end Sys2Proof
end

