-- ==== Sys2Proof/Laws/State.lean ====
section
/-! SUPPORT. What each elementary operation does to each field of the state: one lemma per field per operation. -/

namespace Sys2Proof.Machine

/-! ### emitAll -/

@[simp] theorem State.emitAll_cfg (es : List OutEvent) (s : State) : (s.emitAll es).cfg = s.cfg := rfl
@[simp] theorem State.emitAll_exec (es : List OutEvent) (s : State) : (s.emitAll es).exec = s.exec := rfl
@[simp] theorem State.emitAll_head (es : List OutEvent) (s : State) : (s.emitAll es).head = s.head := rfl
@[simp] theorem State.emitAll_tail (es : List OutEvent) (s : State) : (s.emitAll es).tail = s.tail := rfl
@[simp] theorem State.emitAll_flags (es : List OutEvent) (s : State) : (s.emitAll es).flags = s.flags := rfl
@[simp] theorem State.emitAll_sysPosition (es : List OutEvent) (s : State) : (s.emitAll es).sysPosition = s.sysPosition := rfl
@[simp] theorem State.emitAll_pool (es : List OutEvent) (s : State) : (s.emitAll es).pool = s.pool := rfl
@[simp] theorem State.emitAll_ring (es : List OutEvent) (s : State) : (s.emitAll es).ring = s.ring := rfl
@[simp] theorem State.emitAll_epoch (es : List OutEvent) (s : State) : (s.emitAll es).epoch = s.epoch := rfl
@[simp] theorem State.emitAll_settings (es : List OutEvent) (s : State) : (s.emitAll es).settings = s.settings := rfl
@[simp] theorem State.emitAll_sysctl (es : List OutEvent) (s : State) : (s.emitAll es).sysctl = s.sysctl := rfl
@[simp] theorem State.emitAll_stepInv (es : List OutEvent) (s : State) : (s.emitAll es).stepInv = s.stepInv := rfl
@[simp] theorem State.emitAll_dirInv (es : List OutEvent) (s : State) : (s.emitAll es).dirInv = s.dirInv := rfl
@[simp] theorem State.emitAll_timer (es : List OutEvent) (s : State) : (s.emitAll es).timer = s.timer := rfl
@[simp] theorem State.emitAll_lines (es : List OutEvent) (s : State) : (s.emitAll es).lines = s.lines := rfl
@[simp] theorem State.emitAll_spindlePwmOut (es : List OutEvent) (s : State) : (s.emitAll es).spindlePwmOut = s.spindlePwmOut := rfl
@[simp] theorem State.emitAll_hostResult (es : List OutEvent) (s : State) : (s.emitAll es).hostResult = s.hostResult := rfl
@[simp] theorem State.emitAll_inputs (es : List OutEvent) (s : State) : (s.emitAll es).inputs = s.inputs := rfl
@[simp] theorem State.emitAll_time (es : List OutEvent) (s : State) : (s.emitAll es).time = s.time := rfl
@[simp] theorem State.emitAll_trace (es : List OutEvent) (s : State) : (s.emitAll es).trace = s.trace ++ es.map fun e => ⟨s.time, e⟩ := rfl

/-! ### emit -/

@[simp] theorem State.emit_cfg (e : OutEvent) (s : State) : (s.emit e).cfg = s.cfg := rfl
@[simp] theorem State.emit_exec (e : OutEvent) (s : State) : (s.emit e).exec = s.exec := rfl
@[simp] theorem State.emit_head (e : OutEvent) (s : State) : (s.emit e).head = s.head := rfl
@[simp] theorem State.emit_tail (e : OutEvent) (s : State) : (s.emit e).tail = s.tail := rfl
@[simp] theorem State.emit_flags (e : OutEvent) (s : State) : (s.emit e).flags = s.flags := rfl
@[simp] theorem State.emit_sysPosition (e : OutEvent) (s : State) : (s.emit e).sysPosition = s.sysPosition := rfl
@[simp] theorem State.emit_pool (e : OutEvent) (s : State) : (s.emit e).pool = s.pool := rfl
@[simp] theorem State.emit_ring (e : OutEvent) (s : State) : (s.emit e).ring = s.ring := rfl
@[simp] theorem State.emit_epoch (e : OutEvent) (s : State) : (s.emit e).epoch = s.epoch := rfl
@[simp] theorem State.emit_settings (e : OutEvent) (s : State) : (s.emit e).settings = s.settings := rfl
@[simp] theorem State.emit_sysctl (e : OutEvent) (s : State) : (s.emit e).sysctl = s.sysctl := rfl
@[simp] theorem State.emit_stepInv (e : OutEvent) (s : State) : (s.emit e).stepInv = s.stepInv := rfl
@[simp] theorem State.emit_dirInv (e : OutEvent) (s : State) : (s.emit e).dirInv = s.dirInv := rfl
@[simp] theorem State.emit_timer (e : OutEvent) (s : State) : (s.emit e).timer = s.timer := rfl
@[simp] theorem State.emit_lines (e : OutEvent) (s : State) : (s.emit e).lines = s.lines := rfl
@[simp] theorem State.emit_spindlePwmOut (e : OutEvent) (s : State) : (s.emit e).spindlePwmOut = s.spindlePwmOut := rfl
@[simp] theorem State.emit_hostResult (e : OutEvent) (s : State) : (s.emit e).hostResult = s.hostResult := rfl
@[simp] theorem State.emit_inputs (e : OutEvent) (s : State) : (s.emit e).inputs = s.inputs := rfl
@[simp] theorem State.emit_time (e : OutEvent) (s : State) : (s.emit e).time = s.time := rfl
@[simp] theorem State.emit_trace (e : OutEvent) (s : State) : (s.emit e).trace = s.trace ++ [⟨s.time, e⟩] := rfl

/-! ### wait -/

@[simp] theorem State.wait_cfg (n : Nat) (s : State) : (s.wait n).cfg = s.cfg := rfl
@[simp] theorem State.wait_exec (n : Nat) (s : State) : (s.wait n).exec = s.exec := rfl
@[simp] theorem State.wait_head (n : Nat) (s : State) : (s.wait n).head = s.head := rfl
@[simp] theorem State.wait_tail (n : Nat) (s : State) : (s.wait n).tail = s.tail := rfl
@[simp] theorem State.wait_flags (n : Nat) (s : State) : (s.wait n).flags = s.flags := rfl
@[simp] theorem State.wait_sysPosition (n : Nat) (s : State) : (s.wait n).sysPosition = s.sysPosition := rfl
@[simp] theorem State.wait_pool (n : Nat) (s : State) : (s.wait n).pool = s.pool := rfl
@[simp] theorem State.wait_ring (n : Nat) (s : State) : (s.wait n).ring = s.ring := rfl
@[simp] theorem State.wait_epoch (n : Nat) (s : State) : (s.wait n).epoch = s.epoch := rfl
@[simp] theorem State.wait_settings (n : Nat) (s : State) : (s.wait n).settings = s.settings := rfl
@[simp] theorem State.wait_sysctl (n : Nat) (s : State) : (s.wait n).sysctl = s.sysctl := rfl
@[simp] theorem State.wait_stepInv (n : Nat) (s : State) : (s.wait n).stepInv = s.stepInv := rfl
@[simp] theorem State.wait_dirInv (n : Nat) (s : State) : (s.wait n).dirInv = s.dirInv := rfl
@[simp] theorem State.wait_timer (n : Nat) (s : State) : (s.wait n).timer = s.timer := rfl
@[simp] theorem State.wait_lines (n : Nat) (s : State) : (s.wait n).lines = s.lines := rfl
@[simp] theorem State.wait_spindlePwmOut (n : Nat) (s : State) : (s.wait n).spindlePwmOut = s.spindlePwmOut := rfl
@[simp] theorem State.wait_hostResult (n : Nat) (s : State) : (s.wait n).hostResult = s.hostResult := rfl
@[simp] theorem State.wait_inputs (n : Nat) (s : State) : (s.wait n).inputs = s.inputs := rfl
@[simp] theorem State.wait_time (n : Nat) (s : State) : (s.wait n).time = s.time + n := rfl
@[simp] theorem State.wait_trace (n : Nat) (s : State) : (s.wait n).trace = s.trace := rfl

/-! ### raise -/

@[simp] theorem State.raise_cfg (c : Cause) (s : State) : (s.raise c).cfg = s.cfg := rfl
@[simp] theorem State.raise_exec (c : Cause) (s : State) : (s.raise c).exec = s.exec := rfl
@[simp] theorem State.raise_head (c : Cause) (s : State) : (s.raise c).head = s.head := rfl
@[simp] theorem State.raise_tail (c : Cause) (s : State) : (s.raise c).tail = s.tail := rfl
@[simp] theorem State.raise_flags (c : Cause) (s : State) : (s.raise c).flags = s.flags.set c := rfl
@[simp] theorem State.raise_sysPosition (c : Cause) (s : State) : (s.raise c).sysPosition = s.sysPosition := rfl
@[simp] theorem State.raise_pool (c : Cause) (s : State) : (s.raise c).pool = s.pool := rfl
@[simp] theorem State.raise_ring (c : Cause) (s : State) : (s.raise c).ring = s.ring := rfl
@[simp] theorem State.raise_epoch (c : Cause) (s : State) : (s.raise c).epoch = s.epoch := rfl
@[simp] theorem State.raise_settings (c : Cause) (s : State) : (s.raise c).settings = s.settings := rfl
@[simp] theorem State.raise_sysctl (c : Cause) (s : State) : (s.raise c).sysctl = s.sysctl := rfl
@[simp] theorem State.raise_stepInv (c : Cause) (s : State) : (s.raise c).stepInv = s.stepInv := rfl
@[simp] theorem State.raise_dirInv (c : Cause) (s : State) : (s.raise c).dirInv = s.dirInv := rfl
@[simp] theorem State.raise_timer (c : Cause) (s : State) : (s.raise c).timer = s.timer := rfl
@[simp] theorem State.raise_lines (c : Cause) (s : State) : (s.raise c).lines = s.lines := rfl
@[simp] theorem State.raise_spindlePwmOut (c : Cause) (s : State) : (s.raise c).spindlePwmOut = s.spindlePwmOut := rfl
@[simp] theorem State.raise_hostResult (c : Cause) (s : State) : (s.raise c).hostResult = s.hostResult := rfl
@[simp] theorem State.raise_inputs (c : Cause) (s : State) : (s.raise c).inputs = s.inputs := rfl
@[simp] theorem State.raise_time (c : Cause) (s : State) : (s.raise c).time = s.time := rfl
@[simp] theorem State.raise_trace (c : Cause) (s : State) : (s.raise c).trace = s.trace := rfl

/-! ### refuse -/

@[simp] theorem State.refuse_cfg (c : Cause) (s : State) : (s.refuse c).cfg = s.cfg := rfl
@[simp] theorem State.refuse_exec (c : Cause) (s : State) : (s.refuse c).exec = s.exec := rfl
@[simp] theorem State.refuse_head (c : Cause) (s : State) : (s.refuse c).head = s.head := rfl
@[simp] theorem State.refuse_tail (c : Cause) (s : State) : (s.refuse c).tail = s.tail := rfl
@[simp] theorem State.refuse_flags (c : Cause) (s : State) : (s.refuse c).flags = s.flags.set c := rfl
@[simp] theorem State.refuse_sysPosition (c : Cause) (s : State) : (s.refuse c).sysPosition = s.sysPosition := rfl
@[simp] theorem State.refuse_pool (c : Cause) (s : State) : (s.refuse c).pool = s.pool := rfl
@[simp] theorem State.refuse_ring (c : Cause) (s : State) : (s.refuse c).ring = s.ring := rfl
@[simp] theorem State.refuse_epoch (c : Cause) (s : State) : (s.refuse c).epoch = s.epoch := rfl
@[simp] theorem State.refuse_settings (c : Cause) (s : State) : (s.refuse c).settings = s.settings := rfl
@[simp] theorem State.refuse_sysctl (c : Cause) (s : State) : (s.refuse c).sysctl = s.sysctl := rfl
@[simp] theorem State.refuse_stepInv (c : Cause) (s : State) : (s.refuse c).stepInv = s.stepInv := rfl
@[simp] theorem State.refuse_dirInv (c : Cause) (s : State) : (s.refuse c).dirInv = s.dirInv := rfl
@[simp] theorem State.refuse_timer (c : Cause) (s : State) : (s.refuse c).timer = s.timer := rfl
@[simp] theorem State.refuse_lines (c : Cause) (s : State) : (s.refuse c).lines = s.lines := rfl
@[simp] theorem State.refuse_spindlePwmOut (c : Cause) (s : State) : (s.refuse c).spindlePwmOut = s.spindlePwmOut := rfl
@[simp] theorem State.refuse_hostResult (c : Cause) (s : State) : (s.refuse c).hostResult = s.hostResult := rfl
@[simp] theorem State.refuse_inputs (c : Cause) (s : State) : (s.refuse c).inputs = s.inputs := rfl
@[simp] theorem State.refuse_time (c : Cause) (s : State) : (s.refuse c).time = s.time := rfl
@[simp] theorem State.refuse_trace (c : Cause) (s : State) : (s.refuse c).trace = s.trace := rfl

/-! ### driveSteps -/

@[simp] theorem State.driveSteps_cfg (b : AxisBits) (s : State) : (s.driveSteps b).cfg = s.cfg := rfl
@[simp] theorem State.driveSteps_exec (b : AxisBits) (s : State) : (s.driveSteps b).exec = s.exec := rfl
@[simp] theorem State.driveSteps_head (b : AxisBits) (s : State) : (s.driveSteps b).head = s.head := rfl
@[simp] theorem State.driveSteps_tail (b : AxisBits) (s : State) : (s.driveSteps b).tail = s.tail := rfl
@[simp] theorem State.driveSteps_flags (b : AxisBits) (s : State) : (s.driveSteps b).flags = s.flags := rfl
@[simp] theorem State.driveSteps_sysPosition (b : AxisBits) (s : State) : (s.driveSteps b).sysPosition = s.sysPosition := rfl
@[simp] theorem State.driveSteps_pool (b : AxisBits) (s : State) : (s.driveSteps b).pool = s.pool := rfl
@[simp] theorem State.driveSteps_ring (b : AxisBits) (s : State) : (s.driveSteps b).ring = s.ring := rfl
@[simp] theorem State.driveSteps_epoch (b : AxisBits) (s : State) : (s.driveSteps b).epoch = s.epoch := rfl
@[simp] theorem State.driveSteps_settings (b : AxisBits) (s : State) : (s.driveSteps b).settings = s.settings := rfl
@[simp] theorem State.driveSteps_sysctl (b : AxisBits) (s : State) : (s.driveSteps b).sysctl = s.sysctl := rfl
@[simp] theorem State.driveSteps_stepInv (b : AxisBits) (s : State) : (s.driveSteps b).stepInv = s.stepInv := rfl
@[simp] theorem State.driveSteps_dirInv (b : AxisBits) (s : State) : (s.driveSteps b).dirInv = s.dirInv := rfl
@[simp] theorem State.driveSteps_timer (b : AxisBits) (s : State) : (s.driveSteps b).timer = s.timer := rfl
@[simp] theorem State.driveSteps_lines (b : AxisBits) (s : State) : (s.driveSteps b).lines = { s.lines with step := b &&& s.cfg.axisMask } := rfl
@[simp] theorem State.driveSteps_spindlePwmOut (b : AxisBits) (s : State) : (s.driveSteps b).spindlePwmOut = s.spindlePwmOut := rfl
@[simp] theorem State.driveSteps_hostResult (b : AxisBits) (s : State) : (s.driveSteps b).hostResult = s.hostResult := rfl
@[simp] theorem State.driveSteps_inputs (b : AxisBits) (s : State) : (s.driveSteps b).inputs = s.inputs := rfl
@[simp] theorem State.driveSteps_time (b : AxisBits) (s : State) : (s.driveSteps b).time = s.time := rfl
@[simp] theorem State.driveSteps_trace (b : AxisBits) (s : State) : (s.driveSteps b).trace = s.trace ++ (s.cfg.axes.flatMap fun i => s.stepEvent i (b.bit i)).map fun e => ⟨s.time, e⟩ := rfl

/-! ### driveDirs -/

@[simp] theorem State.driveDirs_cfg (b : AxisBits) (s : State) : (s.driveDirs b).cfg = s.cfg := rfl
@[simp] theorem State.driveDirs_exec (b : AxisBits) (s : State) : (s.driveDirs b).exec = s.exec := rfl
@[simp] theorem State.driveDirs_head (b : AxisBits) (s : State) : (s.driveDirs b).head = s.head := rfl
@[simp] theorem State.driveDirs_tail (b : AxisBits) (s : State) : (s.driveDirs b).tail = s.tail := rfl
@[simp] theorem State.driveDirs_flags (b : AxisBits) (s : State) : (s.driveDirs b).flags = s.flags := rfl
@[simp] theorem State.driveDirs_sysPosition (b : AxisBits) (s : State) : (s.driveDirs b).sysPosition = s.sysPosition := rfl
@[simp] theorem State.driveDirs_pool (b : AxisBits) (s : State) : (s.driveDirs b).pool = s.pool := rfl
@[simp] theorem State.driveDirs_ring (b : AxisBits) (s : State) : (s.driveDirs b).ring = s.ring := rfl
@[simp] theorem State.driveDirs_epoch (b : AxisBits) (s : State) : (s.driveDirs b).epoch = s.epoch := rfl
@[simp] theorem State.driveDirs_settings (b : AxisBits) (s : State) : (s.driveDirs b).settings = s.settings := rfl
@[simp] theorem State.driveDirs_sysctl (b : AxisBits) (s : State) : (s.driveDirs b).sysctl = s.sysctl := rfl
@[simp] theorem State.driveDirs_stepInv (b : AxisBits) (s : State) : (s.driveDirs b).stepInv = s.stepInv := rfl
@[simp] theorem State.driveDirs_dirInv (b : AxisBits) (s : State) : (s.driveDirs b).dirInv = s.dirInv := rfl
@[simp] theorem State.driveDirs_timer (b : AxisBits) (s : State) : (s.driveDirs b).timer = s.timer := rfl
@[simp] theorem State.driveDirs_lines (b : AxisBits) (s : State) : (s.driveDirs b).lines = { s.lines with dir := b &&& s.cfg.axisMask } := rfl
@[simp] theorem State.driveDirs_spindlePwmOut (b : AxisBits) (s : State) : (s.driveDirs b).spindlePwmOut = s.spindlePwmOut := rfl
@[simp] theorem State.driveDirs_hostResult (b : AxisBits) (s : State) : (s.driveDirs b).hostResult = s.hostResult := rfl
@[simp] theorem State.driveDirs_inputs (b : AxisBits) (s : State) : (s.driveDirs b).inputs = s.inputs := rfl
@[simp] theorem State.driveDirs_time (b : AxisBits) (s : State) : (s.driveDirs b).time = s.time := rfl
@[simp] theorem State.driveDirs_trace (b : AxisBits) (s : State) : (s.driveDirs b).trace = s.trace ++ (s.cfg.axes.flatMap fun i => s.dirEvent i (b.bit i)).map fun e => ⟨s.time, e⟩ := rfl

/-! ### idleSteps -/

@[simp] theorem State.idleSteps_cfg (s : State) : (s.idleSteps).cfg = s.cfg := rfl
@[simp] theorem State.idleSteps_exec (s : State) : (s.idleSteps).exec = s.exec := rfl
@[simp] theorem State.idleSteps_head (s : State) : (s.idleSteps).head = s.head := rfl
@[simp] theorem State.idleSteps_tail (s : State) : (s.idleSteps).tail = s.tail := rfl
@[simp] theorem State.idleSteps_flags (s : State) : (s.idleSteps).flags = s.flags := rfl
@[simp] theorem State.idleSteps_sysPosition (s : State) : (s.idleSteps).sysPosition = s.sysPosition := rfl
@[simp] theorem State.idleSteps_pool (s : State) : (s.idleSteps).pool = s.pool := rfl
@[simp] theorem State.idleSteps_ring (s : State) : (s.idleSteps).ring = s.ring := rfl
@[simp] theorem State.idleSteps_epoch (s : State) : (s.idleSteps).epoch = s.epoch := rfl
@[simp] theorem State.idleSteps_settings (s : State) : (s.idleSteps).settings = s.settings := rfl
@[simp] theorem State.idleSteps_sysctl (s : State) : (s.idleSteps).sysctl = s.sysctl := rfl
@[simp] theorem State.idleSteps_stepInv (s : State) : (s.idleSteps).stepInv = s.stepInv := rfl
@[simp] theorem State.idleSteps_dirInv (s : State) : (s.idleSteps).dirInv = s.dirInv := rfl
@[simp] theorem State.idleSteps_timer (s : State) : (s.idleSteps).timer = s.timer := rfl
@[simp] theorem State.idleSteps_lines (s : State) : (s.idleSteps).lines = { s.lines with step := s.stepInv &&& s.cfg.axisMask } := rfl
@[simp] theorem State.idleSteps_spindlePwmOut (s : State) : (s.idleSteps).spindlePwmOut = s.spindlePwmOut := rfl
@[simp] theorem State.idleSteps_hostResult (s : State) : (s.idleSteps).hostResult = s.hostResult := rfl
@[simp] theorem State.idleSteps_inputs (s : State) : (s.idleSteps).inputs = s.inputs := rfl
@[simp] theorem State.idleSteps_time (s : State) : (s.idleSteps).time = s.time := rfl
@[simp] theorem State.idleSteps_trace (s : State) : (s.idleSteps).trace = s.trace ++ (s.cfg.axes.flatMap fun i => s.stepEvent i (s.stepInv.bit i)).map fun e => ⟨s.time, e⟩ := rfl

/-! ### allLinesLow -/

@[simp] theorem State.allLinesLow_cfg (s : State) : (s.allLinesLow).cfg = s.cfg := rfl
@[simp] theorem State.allLinesLow_exec (s : State) : (s.allLinesLow).exec = s.exec := rfl
@[simp] theorem State.allLinesLow_head (s : State) : (s.allLinesLow).head = s.head := rfl
@[simp] theorem State.allLinesLow_tail (s : State) : (s.allLinesLow).tail = s.tail := rfl
@[simp] theorem State.allLinesLow_flags (s : State) : (s.allLinesLow).flags = s.flags := rfl
@[simp] theorem State.allLinesLow_sysPosition (s : State) : (s.allLinesLow).sysPosition = s.sysPosition := rfl
@[simp] theorem State.allLinesLow_pool (s : State) : (s.allLinesLow).pool = s.pool := rfl
@[simp] theorem State.allLinesLow_ring (s : State) : (s.allLinesLow).ring = s.ring := rfl
@[simp] theorem State.allLinesLow_epoch (s : State) : (s.allLinesLow).epoch = s.epoch := rfl
@[simp] theorem State.allLinesLow_settings (s : State) : (s.allLinesLow).settings = s.settings := rfl
@[simp] theorem State.allLinesLow_sysctl (s : State) : (s.allLinesLow).sysctl = s.sysctl := rfl
@[simp] theorem State.allLinesLow_stepInv (s : State) : (s.allLinesLow).stepInv = s.stepInv := rfl
@[simp] theorem State.allLinesLow_dirInv (s : State) : (s.allLinesLow).dirInv = s.dirInv := rfl
@[simp] theorem State.allLinesLow_timer (s : State) : (s.allLinesLow).timer = s.timer := rfl
@[simp] theorem State.allLinesLow_lines (s : State) : (s.allLinesLow).lines = { s.lines with step := 0, dir := 0 } := rfl
@[simp] theorem State.allLinesLow_spindlePwmOut (s : State) : (s.allLinesLow).spindlePwmOut = s.spindlePwmOut := rfl
@[simp] theorem State.allLinesLow_hostResult (s : State) : (s.allLinesLow).hostResult = s.hostResult := rfl
@[simp] theorem State.allLinesLow_inputs (s : State) : (s.allLinesLow).inputs = s.inputs := rfl
@[simp] theorem State.allLinesLow_time (s : State) : (s.allLinesLow).time = s.time := rfl
@[simp] theorem State.allLinesLow_trace (s : State) : (s.allLinesLow).trace = s.trace ++ (s.cfg.axes.flatMap fun i => s.stepEvent i false ++ s.dirEvent i false).map fun e => ⟨s.time, e⟩ := rfl

/-! ### driveEnable -/

@[simp] theorem State.driveEnable_cfg (b : Bool) (s : State) : (s.driveEnable b).cfg = s.cfg := rfl
@[simp] theorem State.driveEnable_exec (b : Bool) (s : State) : (s.driveEnable b).exec = s.exec := rfl
@[simp] theorem State.driveEnable_head (b : Bool) (s : State) : (s.driveEnable b).head = s.head := rfl
@[simp] theorem State.driveEnable_tail (b : Bool) (s : State) : (s.driveEnable b).tail = s.tail := rfl
@[simp] theorem State.driveEnable_flags (b : Bool) (s : State) : (s.driveEnable b).flags = s.flags := rfl
@[simp] theorem State.driveEnable_sysPosition (b : Bool) (s : State) : (s.driveEnable b).sysPosition = s.sysPosition := rfl
@[simp] theorem State.driveEnable_pool (b : Bool) (s : State) : (s.driveEnable b).pool = s.pool := rfl
@[simp] theorem State.driveEnable_ring (b : Bool) (s : State) : (s.driveEnable b).ring = s.ring := rfl
@[simp] theorem State.driveEnable_epoch (b : Bool) (s : State) : (s.driveEnable b).epoch = s.epoch := rfl
@[simp] theorem State.driveEnable_settings (b : Bool) (s : State) : (s.driveEnable b).settings = s.settings := rfl
@[simp] theorem State.driveEnable_sysctl (b : Bool) (s : State) : (s.driveEnable b).sysctl = s.sysctl := rfl
@[simp] theorem State.driveEnable_stepInv (b : Bool) (s : State) : (s.driveEnable b).stepInv = s.stepInv := rfl
@[simp] theorem State.driveEnable_dirInv (b : Bool) (s : State) : (s.driveEnable b).dirInv = s.dirInv := rfl
@[simp] theorem State.driveEnable_timer (b : Bool) (s : State) : (s.driveEnable b).timer = s.timer := rfl
@[simp] theorem State.driveEnable_lines (b : Bool) (s : State) : (s.driveEnable b).lines = { s.lines with en := b ^^ s.settings.invertStEnable, drvEnabled := !b } := rfl
@[simp] theorem State.driveEnable_spindlePwmOut (b : Bool) (s : State) : (s.driveEnable b).spindlePwmOut = s.spindlePwmOut := rfl
@[simp] theorem State.driveEnable_hostResult (b : Bool) (s : State) : (s.driveEnable b).hostResult = s.hostResult := rfl
@[simp] theorem State.driveEnable_inputs (b : Bool) (s : State) : (s.driveEnable b).inputs = s.inputs := rfl
@[simp] theorem State.driveEnable_time (b : Bool) (s : State) : (s.driveEnable b).time = s.time := rfl
@[simp] theorem State.driveEnable_trace (b : Bool) (s : State) : (s.driveEnable b).trace = s.trace ++ [⟨s.time, .enSet (b ^^ s.settings.invertStEnable)⟩] := rfl

/-! ### stopTimer -/

@[simp] theorem State.stopTimer_cfg (s : State) : (s.stopTimer).cfg = s.cfg := rfl
@[simp] theorem State.stopTimer_exec (s : State) : (s.stopTimer).exec = s.exec := rfl
@[simp] theorem State.stopTimer_head (s : State) : (s.stopTimer).head = s.head := rfl
@[simp] theorem State.stopTimer_tail (s : State) : (s.stopTimer).tail = s.tail := rfl
@[simp] theorem State.stopTimer_flags (s : State) : (s.stopTimer).flags = s.flags := rfl
@[simp] theorem State.stopTimer_sysPosition (s : State) : (s.stopTimer).sysPosition = s.sysPosition := rfl
@[simp] theorem State.stopTimer_pool (s : State) : (s.stopTimer).pool = s.pool := rfl
@[simp] theorem State.stopTimer_ring (s : State) : (s.stopTimer).ring = s.ring := rfl
@[simp] theorem State.stopTimer_epoch (s : State) : (s.stopTimer).epoch = s.epoch := rfl
@[simp] theorem State.stopTimer_settings (s : State) : (s.stopTimer).settings = s.settings := rfl
@[simp] theorem State.stopTimer_sysctl (s : State) : (s.stopTimer).sysctl = s.sysctl := rfl
@[simp] theorem State.stopTimer_stepInv (s : State) : (s.stopTimer).stepInv = s.stepInv := rfl
@[simp] theorem State.stopTimer_dirInv (s : State) : (s.stopTimer).dirInv = s.dirInv := rfl
@[simp] theorem State.stopTimer_timer (s : State) : (s.stopTimer).timer = { s.timer with run := false } := rfl
@[simp] theorem State.stopTimer_lines (s : State) : (s.stopTimer).lines = s.lines := rfl
@[simp] theorem State.stopTimer_spindlePwmOut (s : State) : (s.stopTimer).spindlePwmOut = s.spindlePwmOut := rfl
@[simp] theorem State.stopTimer_hostResult (s : State) : (s.stopTimer).hostResult = s.hostResult := rfl
@[simp] theorem State.stopTimer_inputs (s : State) : (s.stopTimer).inputs = s.inputs := rfl
@[simp] theorem State.stopTimer_time (s : State) : (s.stopTimer).time = s.time := rfl
@[simp] theorem State.stopTimer_trace (s : State) : (s.stopTimer).trace = s.trace := rfl

/-! ### resetTimer -/

@[simp] theorem State.resetTimer_cfg (s : State) : (s.resetTimer).cfg = s.cfg := rfl
@[simp] theorem State.resetTimer_exec (s : State) : (s.resetTimer).exec = s.exec := rfl
@[simp] theorem State.resetTimer_head (s : State) : (s.resetTimer).head = s.head := rfl
@[simp] theorem State.resetTimer_tail (s : State) : (s.resetTimer).tail = s.tail := rfl
@[simp] theorem State.resetTimer_flags (s : State) : (s.resetTimer).flags = s.flags := rfl
@[simp] theorem State.resetTimer_sysPosition (s : State) : (s.resetTimer).sysPosition = s.sysPosition := rfl
@[simp] theorem State.resetTimer_pool (s : State) : (s.resetTimer).pool = s.pool := rfl
@[simp] theorem State.resetTimer_ring (s : State) : (s.resetTimer).ring = s.ring := rfl
@[simp] theorem State.resetTimer_epoch (s : State) : (s.resetTimer).epoch = s.epoch := rfl
@[simp] theorem State.resetTimer_settings (s : State) : (s.resetTimer).settings = s.settings := rfl
@[simp] theorem State.resetTimer_sysctl (s : State) : (s.resetTimer).sysctl = s.sysctl := rfl
@[simp] theorem State.resetTimer_stepInv (s : State) : (s.resetTimer).stepInv = s.stepInv := rfl
@[simp] theorem State.resetTimer_dirInv (s : State) : (s.resetTimer).dirInv = s.dirInv := rfl
@[simp] theorem State.resetTimer_timer (s : State) : (s.resetTimer).timer = TimerRegs.default s.cfg := rfl
@[simp] theorem State.resetTimer_lines (s : State) : (s.resetTimer).lines = s.lines := rfl
@[simp] theorem State.resetTimer_spindlePwmOut (s : State) : (s.resetTimer).spindlePwmOut = s.spindlePwmOut := rfl
@[simp] theorem State.resetTimer_hostResult (s : State) : (s.resetTimer).hostResult = s.hostResult := rfl
@[simp] theorem State.resetTimer_inputs (s : State) : (s.resetTimer).inputs = s.inputs := rfl
@[simp] theorem State.resetTimer_time (s : State) : (s.resetTimer).time = s.time := rfl
@[simp] theorem State.resetTimer_trace (s : State) : (s.resetTimer).trace = s.trace := rfl

/-! ### programTimer -/

@[simp] theorem State.programTimer_cfg (a : Half) (s : State) : (s.programTimer a).cfg = s.cfg := rfl
@[simp] theorem State.programTimer_exec (a : Half) (s : State) : (s.programTimer a).exec = s.exec := rfl
@[simp] theorem State.programTimer_head (a : Half) (s : State) : (s.programTimer a).head = s.head := rfl
@[simp] theorem State.programTimer_tail (a : Half) (s : State) : (s.programTimer a).tail = s.tail := rfl
@[simp] theorem State.programTimer_flags (a : Half) (s : State) : (s.programTimer a).flags = s.flags := rfl
@[simp] theorem State.programTimer_sysPosition (a : Half) (s : State) : (s.programTimer a).sysPosition = s.sysPosition := rfl
@[simp] theorem State.programTimer_pool (a : Half) (s : State) : (s.programTimer a).pool = s.pool := rfl
@[simp] theorem State.programTimer_ring (a : Half) (s : State) : (s.programTimer a).ring = s.ring := rfl
@[simp] theorem State.programTimer_epoch (a : Half) (s : State) : (s.programTimer a).epoch = s.epoch := rfl
@[simp] theorem State.programTimer_settings (a : Half) (s : State) : (s.programTimer a).settings = s.settings := rfl
@[simp] theorem State.programTimer_sysctl (a : Half) (s : State) : (s.programTimer a).sysctl = s.sysctl := rfl
@[simp] theorem State.programTimer_stepInv (a : Half) (s : State) : (s.programTimer a).stepInv = s.stepInv := rfl
@[simp] theorem State.programTimer_dirInv (a : Half) (s : State) : (s.programTimer a).dirInv = s.dirInv := rfl
@[simp] theorem State.programTimer_timer (a : Half) (s : State) : (s.programTimer a).timer = { s.timer with arr := a, ccr := compareOf a } := rfl
@[simp] theorem State.programTimer_lines (a : Half) (s : State) : (s.programTimer a).lines = s.lines := rfl
@[simp] theorem State.programTimer_spindlePwmOut (a : Half) (s : State) : (s.programTimer a).spindlePwmOut = s.spindlePwmOut := rfl
@[simp] theorem State.programTimer_hostResult (a : Half) (s : State) : (s.programTimer a).hostResult = s.hostResult := rfl
@[simp] theorem State.programTimer_inputs (a : Half) (s : State) : (s.programTimer a).inputs = s.inputs := rfl
@[simp] theorem State.programTimer_time (a : Half) (s : State) : (s.programTimer a).time = s.time := rfl
@[simp] theorem State.programTimer_trace (a : Half) (s : State) : (s.programTimer a).trace = s.trace := rfl

/-! ### spindleWrite -/

@[simp] theorem State.spindleWrite_cfg (v : Half) (s : State) : (s.spindleWrite v).cfg = s.cfg := rfl
@[simp] theorem State.spindleWrite_exec (v : Half) (s : State) : (s.spindleWrite v).exec = s.exec := rfl
@[simp] theorem State.spindleWrite_head (v : Half) (s : State) : (s.spindleWrite v).head = s.head := rfl
@[simp] theorem State.spindleWrite_tail (v : Half) (s : State) : (s.spindleWrite v).tail = s.tail := rfl
@[simp] theorem State.spindleWrite_flags (v : Half) (s : State) : (s.spindleWrite v).flags = s.flags := rfl
@[simp] theorem State.spindleWrite_sysPosition (v : Half) (s : State) : (s.spindleWrite v).sysPosition = s.sysPosition := rfl
@[simp] theorem State.spindleWrite_pool (v : Half) (s : State) : (s.spindleWrite v).pool = s.pool := rfl
@[simp] theorem State.spindleWrite_ring (v : Half) (s : State) : (s.spindleWrite v).ring = s.ring := rfl
@[simp] theorem State.spindleWrite_epoch (v : Half) (s : State) : (s.spindleWrite v).epoch = s.epoch := rfl
@[simp] theorem State.spindleWrite_settings (v : Half) (s : State) : (s.spindleWrite v).settings = s.settings := rfl
@[simp] theorem State.spindleWrite_sysctl (v : Half) (s : State) : (s.spindleWrite v).sysctl = s.sysctl := rfl
@[simp] theorem State.spindleWrite_stepInv (v : Half) (s : State) : (s.spindleWrite v).stepInv = s.stepInv := rfl
@[simp] theorem State.spindleWrite_dirInv (v : Half) (s : State) : (s.spindleWrite v).dirInv = s.dirInv := rfl
@[simp] theorem State.spindleWrite_timer (v : Half) (s : State) : (s.spindleWrite v).timer = s.timer := rfl
@[simp] theorem State.spindleWrite_lines (v : Half) (s : State) : (s.spindleWrite v).lines = s.lines := rfl
@[simp] theorem State.spindleWrite_spindlePwmOut (v : Half) (s : State) : (s.spindleWrite v).spindlePwmOut = v := rfl
@[simp] theorem State.spindleWrite_hostResult (v : Half) (s : State) : (s.spindleWrite v).hostResult = s.hostResult := rfl
@[simp] theorem State.spindleWrite_inputs (v : Half) (s : State) : (s.spindleWrite v).inputs = s.inputs := rfl
@[simp] theorem State.spindleWrite_time (v : Half) (s : State) : (s.spindleWrite v).time = s.time := rfl
@[simp] theorem State.spindleWrite_trace (v : Half) (s : State) : (s.spindleWrite v).trace = s.trace ++ [⟨s.time, .spindleWrite v⟩] := rfl

/-! ### genMasks -/

@[simp] theorem State.genMasks_cfg (s : State) : (s.genMasks).cfg = s.cfg := rfl
@[simp] theorem State.genMasks_exec (s : State) : (s.genMasks).exec = s.exec := rfl
@[simp] theorem State.genMasks_head (s : State) : (s.genMasks).head = s.head := rfl
@[simp] theorem State.genMasks_tail (s : State) : (s.genMasks).tail = s.tail := rfl
@[simp] theorem State.genMasks_flags (s : State) : (s.genMasks).flags = s.flags := rfl
@[simp] theorem State.genMasks_sysPosition (s : State) : (s.genMasks).sysPosition = s.sysPosition := rfl
@[simp] theorem State.genMasks_pool (s : State) : (s.genMasks).pool = s.pool := rfl
@[simp] theorem State.genMasks_ring (s : State) : (s.genMasks).ring = s.ring := rfl
@[simp] theorem State.genMasks_epoch (s : State) : (s.genMasks).epoch = s.epoch := rfl
@[simp] theorem State.genMasks_settings (s : State) : (s.genMasks).settings = s.settings := rfl
@[simp] theorem State.genMasks_sysctl (s : State) : (s.genMasks).sysctl = s.sysctl := rfl
@[simp] theorem State.genMasks_stepInv (s : State) : (s.genMasks).stepInv = s.settings.stepInv := rfl
@[simp] theorem State.genMasks_dirInv (s : State) : (s.genMasks).dirInv = s.settings.dirInv := rfl
@[simp] theorem State.genMasks_timer (s : State) : (s.genMasks).timer = s.timer := rfl
@[simp] theorem State.genMasks_lines (s : State) : (s.genMasks).lines = s.lines := rfl
@[simp] theorem State.genMasks_spindlePwmOut (s : State) : (s.genMasks).spindlePwmOut = s.spindlePwmOut := rfl
@[simp] theorem State.genMasks_hostResult (s : State) : (s.genMasks).hostResult = s.hostResult := rfl
@[simp] theorem State.genMasks_inputs (s : State) : (s.genMasks).inputs = s.inputs := rfl
@[simp] theorem State.genMasks_time (s : State) : (s.genMasks).time = s.time := rfl
@[simp] theorem State.genMasks_trace (s : State) : (s.genMasks).trace = s.trace := rfl

/-! ### hostReturn -/

@[simp] theorem State.hostReturn_cfg (v : Word) (s : State) : (s.hostReturn v).cfg = s.cfg := rfl
@[simp] theorem State.hostReturn_exec (v : Word) (s : State) : (s.hostReturn v).exec = s.exec := rfl
@[simp] theorem State.hostReturn_head (v : Word) (s : State) : (s.hostReturn v).head = s.head := rfl
@[simp] theorem State.hostReturn_tail (v : Word) (s : State) : (s.hostReturn v).tail = s.tail := rfl
@[simp] theorem State.hostReturn_flags (v : Word) (s : State) : (s.hostReturn v).flags = s.flags := rfl
@[simp] theorem State.hostReturn_sysPosition (v : Word) (s : State) : (s.hostReturn v).sysPosition = s.sysPosition := rfl
@[simp] theorem State.hostReturn_pool (v : Word) (s : State) : (s.hostReturn v).pool = s.pool := rfl
@[simp] theorem State.hostReturn_ring (v : Word) (s : State) : (s.hostReturn v).ring = s.ring := rfl
@[simp] theorem State.hostReturn_epoch (v : Word) (s : State) : (s.hostReturn v).epoch = s.epoch := rfl
@[simp] theorem State.hostReturn_settings (v : Word) (s : State) : (s.hostReturn v).settings = s.settings := rfl
@[simp] theorem State.hostReturn_sysctl (v : Word) (s : State) : (s.hostReturn v).sysctl = s.sysctl := rfl
@[simp] theorem State.hostReturn_stepInv (v : Word) (s : State) : (s.hostReturn v).stepInv = s.stepInv := rfl
@[simp] theorem State.hostReturn_dirInv (v : Word) (s : State) : (s.hostReturn v).dirInv = s.dirInv := rfl
@[simp] theorem State.hostReturn_timer (v : Word) (s : State) : (s.hostReturn v).timer = s.timer := rfl
@[simp] theorem State.hostReturn_lines (v : Word) (s : State) : (s.hostReturn v).lines = s.lines := rfl
@[simp] theorem State.hostReturn_spindlePwmOut (v : Word) (s : State) : (s.hostReturn v).spindlePwmOut = s.spindlePwmOut := rfl
@[simp] theorem State.hostReturn_hostResult (v : Word) (s : State) : (s.hostReturn v).hostResult = v := rfl
@[simp] theorem State.hostReturn_inputs (v : Word) (s : State) : (s.hostReturn v).inputs = s.inputs := rfl
@[simp] theorem State.hostReturn_time (v : Word) (s : State) : (s.hostReturn v).time = s.time := rfl
@[simp] theorem State.hostReturn_trace (v : Word) (s : State) : (s.hostReturn v).trace = s.trace := rfl

/-! ### forgetMemories -/

@[simp] theorem State.forgetMemories_cfg (s : State) : (s.forgetMemories).cfg = s.cfg := rfl
@[simp] theorem State.forgetMemories_exec (s : State) : (s.forgetMemories).exec = s.exec := rfl
@[simp] theorem State.forgetMemories_head (s : State) : (s.forgetMemories).head = s.head := rfl
@[simp] theorem State.forgetMemories_tail (s : State) : (s.forgetMemories).tail = s.tail := rfl
@[simp] theorem State.forgetMemories_flags (s : State) : (s.forgetMemories).flags = s.flags := rfl
@[simp] theorem State.forgetMemories_sysPosition (s : State) : (s.forgetMemories).sysPosition = s.sysPosition := rfl
@[simp] theorem State.forgetMemories_pool (s : State) : (s.forgetMemories).pool = [] := rfl
@[simp] theorem State.forgetMemories_ring (s : State) : (s.forgetMemories).ring = [] := rfl
@[simp] theorem State.forgetMemories_epoch (s : State) : (s.forgetMemories).epoch = s.epoch + 1 := rfl
@[simp] theorem State.forgetMemories_settings (s : State) : (s.forgetMemories).settings = s.settings := rfl
@[simp] theorem State.forgetMemories_sysctl (s : State) : (s.forgetMemories).sysctl = s.sysctl := rfl
@[simp] theorem State.forgetMemories_stepInv (s : State) : (s.forgetMemories).stepInv = s.stepInv := rfl
@[simp] theorem State.forgetMemories_dirInv (s : State) : (s.forgetMemories).dirInv = s.dirInv := rfl
@[simp] theorem State.forgetMemories_timer (s : State) : (s.forgetMemories).timer = s.timer := rfl
@[simp] theorem State.forgetMemories_lines (s : State) : (s.forgetMemories).lines = s.lines := rfl
@[simp] theorem State.forgetMemories_spindlePwmOut (s : State) : (s.forgetMemories).spindlePwmOut = s.spindlePwmOut := rfl
@[simp] theorem State.forgetMemories_hostResult (s : State) : (s.forgetMemories).hostResult = s.hostResult := rfl
@[simp] theorem State.forgetMemories_inputs (s : State) : (s.forgetMemories).inputs = s.inputs := rfl
@[simp] theorem State.forgetMemories_time (s : State) : (s.forgetMemories).time = s.time := rfl
@[simp] theorem State.forgetMemories_trace (s : State) : (s.forgetMemories).trace = s.trace := rfl

/-! ### setSegW0 -/

@[simp] theorem State.setSegW0_cfg (d : Word) (s : State) : (s.setSegW0 d).cfg = s.cfg := rfl
@[simp] theorem State.setSegW0_exec (d : Word) (s : State) : (s.setSegW0 d).exec = s.exec := rfl
@[simp] theorem State.setSegW0_head (d : Word) (s : State) : (s.setSegW0 d).head = s.head := rfl
@[simp] theorem State.setSegW0_tail (d : Word) (s : State) : (s.setSegW0 d).tail = s.tail := rfl
@[simp] theorem State.setSegW0_flags (d : Word) (s : State) : (s.setSegW0 d).flags = s.flags := rfl
@[simp] theorem State.setSegW0_sysPosition (d : Word) (s : State) : (s.setSegW0 d).sysPosition = s.sysPosition := rfl
@[simp] theorem State.setSegW0_pool (d : Word) (s : State) : (s.setSegW0 d).pool = s.pool := rfl
@[simp] theorem State.setSegW0_ring (d : Word) (s : State) : (s.setSegW0 d).ring = s.ring.writeWord (8 * s.head.toNat) d := rfl
@[simp] theorem State.setSegW0_epoch (d : Word) (s : State) : (s.setSegW0 d).epoch = s.epoch := rfl
@[simp] theorem State.setSegW0_settings (d : Word) (s : State) : (s.setSegW0 d).settings = s.settings := rfl
@[simp] theorem State.setSegW0_sysctl (d : Word) (s : State) : (s.setSegW0 d).sysctl = s.sysctl := rfl
@[simp] theorem State.setSegW0_stepInv (d : Word) (s : State) : (s.setSegW0 d).stepInv = s.stepInv := rfl
@[simp] theorem State.setSegW0_dirInv (d : Word) (s : State) : (s.setSegW0 d).dirInv = s.dirInv := rfl
@[simp] theorem State.setSegW0_timer (d : Word) (s : State) : (s.setSegW0 d).timer = s.timer := rfl
@[simp] theorem State.setSegW0_lines (d : Word) (s : State) : (s.setSegW0 d).lines = s.lines := rfl
@[simp] theorem State.setSegW0_spindlePwmOut (d : Word) (s : State) : (s.setSegW0 d).spindlePwmOut = s.spindlePwmOut := rfl
@[simp] theorem State.setSegW0_hostResult (d : Word) (s : State) : (s.setSegW0 d).hostResult = s.hostResult := rfl
@[simp] theorem State.setSegW0_inputs (d : Word) (s : State) : (s.setSegW0 d).inputs = s.inputs := rfl
@[simp] theorem State.setSegW0_time (d : Word) (s : State) : (s.setSegW0 d).time = s.time := rfl
@[simp] theorem State.setSegW0_trace (d : Word) (s : State) : (s.setSegW0 d).trace = s.trace := rfl

/-! ### setSegW1 -/

@[simp] theorem State.setSegW1_cfg (d : Word) (s : State) : (s.setSegW1 d).cfg = s.cfg := rfl
@[simp] theorem State.setSegW1_exec (d : Word) (s : State) : (s.setSegW1 d).exec = s.exec := rfl
@[simp] theorem State.setSegW1_head (d : Word) (s : State) : (s.setSegW1 d).head = s.head := rfl
@[simp] theorem State.setSegW1_tail (d : Word) (s : State) : (s.setSegW1 d).tail = s.tail := rfl
@[simp] theorem State.setSegW1_flags (d : Word) (s : State) : (s.setSegW1 d).flags = s.flags := rfl
@[simp] theorem State.setSegW1_sysPosition (d : Word) (s : State) : (s.setSegW1 d).sysPosition = s.sysPosition := rfl
@[simp] theorem State.setSegW1_pool (d : Word) (s : State) : (s.setSegW1 d).pool = s.pool := rfl
@[simp] theorem State.setSegW1_ring (d : Word) (s : State) : (s.setSegW1 d).ring = s.ring.writeWord (8 * s.head.toNat + 4) (d &&& segw1Mask) := rfl
@[simp] theorem State.setSegW1_epoch (d : Word) (s : State) : (s.setSegW1 d).epoch = s.epoch := rfl
@[simp] theorem State.setSegW1_settings (d : Word) (s : State) : (s.setSegW1 d).settings = s.settings := rfl
@[simp] theorem State.setSegW1_sysctl (d : Word) (s : State) : (s.setSegW1 d).sysctl = s.sysctl := rfl
@[simp] theorem State.setSegW1_stepInv (d : Word) (s : State) : (s.setSegW1 d).stepInv = s.stepInv := rfl
@[simp] theorem State.setSegW1_dirInv (d : Word) (s : State) : (s.setSegW1 d).dirInv = s.dirInv := rfl
@[simp] theorem State.setSegW1_timer (d : Word) (s : State) : (s.setSegW1 d).timer = s.timer := rfl
@[simp] theorem State.setSegW1_lines (d : Word) (s : State) : (s.setSegW1 d).lines = s.lines := rfl
@[simp] theorem State.setSegW1_spindlePwmOut (d : Word) (s : State) : (s.setSegW1 d).spindlePwmOut = s.spindlePwmOut := rfl
@[simp] theorem State.setSegW1_hostResult (d : Word) (s : State) : (s.setSegW1 d).hostResult = s.hostResult := rfl
@[simp] theorem State.setSegW1_inputs (d : Word) (s : State) : (s.setSegW1 d).inputs = s.inputs := rfl
@[simp] theorem State.setSegW1_time (d : Word) (s : State) : (s.setSegW1 d).time = s.time := rfl
@[simp] theorem State.setSegW1_trace (d : Word) (s : State) : (s.setSegW1 d).trace = s.trace := rfl

/-! ### setPoolWord -/

@[simp] theorem State.setPoolWord_cfg (b : BitVec 7) (w : Nat) (d : Word) (s : State) : (s.setPoolWord b w d).cfg = s.cfg := rfl
@[simp] theorem State.setPoolWord_exec (b : BitVec 7) (w : Nat) (d : Word) (s : State) : (s.setPoolWord b w d).exec = s.exec := rfl
@[simp] theorem State.setPoolWord_head (b : BitVec 7) (w : Nat) (d : Word) (s : State) : (s.setPoolWord b w d).head = s.head := rfl
@[simp] theorem State.setPoolWord_tail (b : BitVec 7) (w : Nat) (d : Word) (s : State) : (s.setPoolWord b w d).tail = s.tail := rfl
@[simp] theorem State.setPoolWord_flags (b : BitVec 7) (w : Nat) (d : Word) (s : State) : (s.setPoolWord b w d).flags = s.flags := rfl
@[simp] theorem State.setPoolWord_sysPosition (b : BitVec 7) (w : Nat) (d : Word) (s : State) : (s.setPoolWord b w d).sysPosition = s.sysPosition := rfl
@[simp] theorem State.setPoolWord_pool (b : BitVec 7) (w : Nat) (d : Word) (s : State) : (s.setPoolWord b w d).pool = s.pool.writeWord (poolByteAddr b.toNat w) (if w = 1 then d &&& s.cfg.flgMask else d) := rfl
@[simp] theorem State.setPoolWord_ring (b : BitVec 7) (w : Nat) (d : Word) (s : State) : (s.setPoolWord b w d).ring = s.ring := rfl
@[simp] theorem State.setPoolWord_epoch (b : BitVec 7) (w : Nat) (d : Word) (s : State) : (s.setPoolWord b w d).epoch = s.epoch := rfl
@[simp] theorem State.setPoolWord_settings (b : BitVec 7) (w : Nat) (d : Word) (s : State) : (s.setPoolWord b w d).settings = s.settings := rfl
@[simp] theorem State.setPoolWord_sysctl (b : BitVec 7) (w : Nat) (d : Word) (s : State) : (s.setPoolWord b w d).sysctl = s.sysctl := rfl
@[simp] theorem State.setPoolWord_stepInv (b : BitVec 7) (w : Nat) (d : Word) (s : State) : (s.setPoolWord b w d).stepInv = s.stepInv := rfl
@[simp] theorem State.setPoolWord_dirInv (b : BitVec 7) (w : Nat) (d : Word) (s : State) : (s.setPoolWord b w d).dirInv = s.dirInv := rfl
@[simp] theorem State.setPoolWord_timer (b : BitVec 7) (w : Nat) (d : Word) (s : State) : (s.setPoolWord b w d).timer = s.timer := rfl
@[simp] theorem State.setPoolWord_lines (b : BitVec 7) (w : Nat) (d : Word) (s : State) : (s.setPoolWord b w d).lines = s.lines := rfl
@[simp] theorem State.setPoolWord_spindlePwmOut (b : BitVec 7) (w : Nat) (d : Word) (s : State) : (s.setPoolWord b w d).spindlePwmOut = s.spindlePwmOut := rfl
@[simp] theorem State.setPoolWord_hostResult (b : BitVec 7) (w : Nat) (d : Word) (s : State) : (s.setPoolWord b w d).hostResult = s.hostResult := rfl
@[simp] theorem State.setPoolWord_inputs (b : BitVec 7) (w : Nat) (d : Word) (s : State) : (s.setPoolWord b w d).inputs = s.inputs := rfl
@[simp] theorem State.setPoolWord_time (b : BitVec 7) (w : Nat) (d : Word) (s : State) : (s.setPoolWord b w d).time = s.time := rfl
@[simp] theorem State.setPoolWord_trace (b : BitVec 7) (w : Nat) (d : Word) (s : State) : (s.setPoolWord b w d).trace = s.trace := rfl

/-! ### clearFlags -/

@[simp] theorem State.clearFlags_cfg (d : Word) (s : State) : (s.clearFlags d).cfg = s.cfg := rfl
@[simp] theorem State.clearFlags_exec (d : Word) (s : State) : (s.clearFlags d).exec = s.exec := rfl
@[simp] theorem State.clearFlags_head (d : Word) (s : State) : (s.clearFlags d).head = s.head := rfl
@[simp] theorem State.clearFlags_tail (d : Word) (s : State) : (s.clearFlags d).tail = s.tail := rfl
@[simp] theorem State.clearFlags_flags (d : Word) (s : State) : (s.clearFlags d).flags = s.flags.clear d := rfl
@[simp] theorem State.clearFlags_sysPosition (d : Word) (s : State) : (s.clearFlags d).sysPosition = s.sysPosition := rfl
@[simp] theorem State.clearFlags_pool (d : Word) (s : State) : (s.clearFlags d).pool = s.pool := rfl
@[simp] theorem State.clearFlags_ring (d : Word) (s : State) : (s.clearFlags d).ring = s.ring := rfl
@[simp] theorem State.clearFlags_epoch (d : Word) (s : State) : (s.clearFlags d).epoch = s.epoch := rfl
@[simp] theorem State.clearFlags_settings (d : Word) (s : State) : (s.clearFlags d).settings = s.settings := rfl
@[simp] theorem State.clearFlags_sysctl (d : Word) (s : State) : (s.clearFlags d).sysctl = s.sysctl := rfl
@[simp] theorem State.clearFlags_stepInv (d : Word) (s : State) : (s.clearFlags d).stepInv = s.stepInv := rfl
@[simp] theorem State.clearFlags_dirInv (d : Word) (s : State) : (s.clearFlags d).dirInv = s.dirInv := rfl
@[simp] theorem State.clearFlags_timer (d : Word) (s : State) : (s.clearFlags d).timer = s.timer := rfl
@[simp] theorem State.clearFlags_lines (d : Word) (s : State) : (s.clearFlags d).lines = s.lines := rfl
@[simp] theorem State.clearFlags_spindlePwmOut (d : Word) (s : State) : (s.clearFlags d).spindlePwmOut = s.spindlePwmOut := rfl
@[simp] theorem State.clearFlags_hostResult (d : Word) (s : State) : (s.clearFlags d).hostResult = s.hostResult := rfl
@[simp] theorem State.clearFlags_inputs (d : Word) (s : State) : (s.clearFlags d).inputs = s.inputs := rfl
@[simp] theorem State.clearFlags_time (d : Word) (s : State) : (s.clearFlags d).time = s.time := rfl
@[simp] theorem State.clearFlags_trace (d : Word) (s : State) : (s.clearFlags d).trace = s.trace := rfl

end Sys2Proof.Machine
end

