-- ==== Sys2Proof/Laws/Ops.lean ====
section
/-! SUPPORT. What the shared operations leave unchanged, field by field, and what they do, once each. -/

namespace Sys2Proof.Machine

/-! ## Fields the composed operations leave unchanged -/

@[simp] theorem State.startTimer_cfg (s : State) : (s.startTimer).cfg = s.cfg := by unfold State.startTimer; split <;> rfl
@[simp] theorem State.startTimer_exec (s : State) : (s.startTimer).exec = s.exec := by unfold State.startTimer; split <;> rfl
@[simp] theorem State.startTimer_head (s : State) : (s.startTimer).head = s.head := by unfold State.startTimer; split <;> rfl
@[simp] theorem State.startTimer_tail (s : State) : (s.startTimer).tail = s.tail := by unfold State.startTimer; split <;> rfl
@[simp] theorem State.startTimer_flags (s : State) : (s.startTimer).flags = s.flags := by unfold State.startTimer; split <;> rfl
@[simp] theorem State.startTimer_sysPosition (s : State) : (s.startTimer).sysPosition = s.sysPosition := by unfold State.startTimer; split <;> rfl
@[simp] theorem State.startTimer_pool (s : State) : (s.startTimer).pool = s.pool := by unfold State.startTimer; split <;> rfl
@[simp] theorem State.startTimer_ring (s : State) : (s.startTimer).ring = s.ring := by unfold State.startTimer; split <;> rfl
@[simp] theorem State.startTimer_epoch (s : State) : (s.startTimer).epoch = s.epoch := by unfold State.startTimer; split <;> rfl
@[simp] theorem State.startTimer_settings (s : State) : (s.startTimer).settings = s.settings := by unfold State.startTimer; split <;> rfl
@[simp] theorem State.startTimer_sysctl (s : State) : (s.startTimer).sysctl = s.sysctl := by unfold State.startTimer; split <;> rfl
@[simp] theorem State.startTimer_stepInv (s : State) : (s.startTimer).stepInv = s.stepInv := by unfold State.startTimer; split <;> rfl
@[simp] theorem State.startTimer_dirInv (s : State) : (s.startTimer).dirInv = s.dirInv := by unfold State.startTimer; split <;> rfl
@[simp] theorem State.startTimer_lines (s : State) : (s.startTimer).lines = s.lines := by unfold State.startTimer; split <;> rfl
@[simp] theorem State.startTimer_spindlePwmOut (s : State) : (s.startTimer).spindlePwmOut = s.spindlePwmOut := by unfold State.startTimer; split <;> rfl
@[simp] theorem State.startTimer_hostResult (s : State) : (s.startTimer).hostResult = s.hostResult := by unfold State.startTimer; split <;> rfl
@[simp] theorem State.startTimer_inputs (s : State) : (s.startTimer).inputs = s.inputs := by unfold State.startTimer; split <;> rfl
@[simp] theorem State.startTimer_time (s : State) : (s.startTimer).time = s.time := by unfold State.startTimer; split <;> rfl
@[simp] theorem State.startTimer_trace (s : State) : (s.startTimer).trace = s.trace := by unfold State.startTimer; split <;> rfl

@[simp] theorem State.busError_cfg (we : Bool) (s : State) : (s.busError we).cfg = s.cfg := by unfold State.busError; split <;> rfl
@[simp] theorem State.busError_exec (we : Bool) (s : State) : (s.busError we).exec = s.exec := by unfold State.busError; split <;> rfl
@[simp] theorem State.busError_head (we : Bool) (s : State) : (s.busError we).head = s.head := by unfold State.busError; split <;> rfl
@[simp] theorem State.busError_tail (we : Bool) (s : State) : (s.busError we).tail = s.tail := by unfold State.busError; split <;> rfl
@[simp] theorem State.busError_sysPosition (we : Bool) (s : State) : (s.busError we).sysPosition = s.sysPosition := by unfold State.busError; split <;> rfl
@[simp] theorem State.busError_pool (we : Bool) (s : State) : (s.busError we).pool = s.pool := by unfold State.busError; split <;> rfl
@[simp] theorem State.busError_ring (we : Bool) (s : State) : (s.busError we).ring = s.ring := by unfold State.busError; split <;> rfl
@[simp] theorem State.busError_epoch (we : Bool) (s : State) : (s.busError we).epoch = s.epoch := by unfold State.busError; split <;> rfl
@[simp] theorem State.busError_settings (we : Bool) (s : State) : (s.busError we).settings = s.settings := by unfold State.busError; split <;> rfl
@[simp] theorem State.busError_sysctl (we : Bool) (s : State) : (s.busError we).sysctl = s.sysctl := by unfold State.busError; split <;> rfl
@[simp] theorem State.busError_stepInv (we : Bool) (s : State) : (s.busError we).stepInv = s.stepInv := by unfold State.busError; split <;> rfl
@[simp] theorem State.busError_dirInv (we : Bool) (s : State) : (s.busError we).dirInv = s.dirInv := by unfold State.busError; split <;> rfl
@[simp] theorem State.busError_timer (we : Bool) (s : State) : (s.busError we).timer = s.timer := by unfold State.busError; split <;> rfl
@[simp] theorem State.busError_lines (we : Bool) (s : State) : (s.busError we).lines = s.lines := by unfold State.busError; split <;> rfl
@[simp] theorem State.busError_spindlePwmOut (we : Bool) (s : State) : (s.busError we).spindlePwmOut = s.spindlePwmOut := by unfold State.busError; split <;> rfl
@[simp] theorem State.busError_inputs (we : Bool) (s : State) : (s.busError we).inputs = s.inputs := by unfold State.busError; split <;> rfl
@[simp] theorem State.busError_time (we : Bool) (s : State) : (s.busError we).time = s.time := by unfold State.busError; split <;> rfl
@[simp] theorem State.busError_trace (we : Bool) (s : State) : (s.busError we).trace = s.trace := by unfold State.busError; split <;> rfl

@[simp] theorem State.ldwPool_cfg (b : BitVec 7) (w : Nat) (s : State) : (s.ldwPool b w).cfg = s.cfg := by unfold State.ldwPool; split <;> simp
@[simp] theorem State.ldwPool_exec (b : BitVec 7) (w : Nat) (s : State) : (s.ldwPool b w).exec = s.exec := by unfold State.ldwPool; split <;> simp
@[simp] theorem State.ldwPool_head (b : BitVec 7) (w : Nat) (s : State) : (s.ldwPool b w).head = s.head := by unfold State.ldwPool; split <;> simp
@[simp] theorem State.ldwPool_tail (b : BitVec 7) (w : Nat) (s : State) : (s.ldwPool b w).tail = s.tail := by unfold State.ldwPool; split <;> simp
@[simp] theorem State.ldwPool_sysPosition (b : BitVec 7) (w : Nat) (s : State) : (s.ldwPool b w).sysPosition = s.sysPosition := by unfold State.ldwPool; split <;> simp
@[simp] theorem State.ldwPool_pool (b : BitVec 7) (w : Nat) (s : State) : (s.ldwPool b w).pool = s.pool := by unfold State.ldwPool; split <;> simp
@[simp] theorem State.ldwPool_ring (b : BitVec 7) (w : Nat) (s : State) : (s.ldwPool b w).ring = s.ring := by unfold State.ldwPool; split <;> simp
@[simp] theorem State.ldwPool_epoch (b : BitVec 7) (w : Nat) (s : State) : (s.ldwPool b w).epoch = s.epoch := by unfold State.ldwPool; split <;> simp
@[simp] theorem State.ldwPool_settings (b : BitVec 7) (w : Nat) (s : State) : (s.ldwPool b w).settings = s.settings := by unfold State.ldwPool; split <;> simp
@[simp] theorem State.ldwPool_sysctl (b : BitVec 7) (w : Nat) (s : State) : (s.ldwPool b w).sysctl = s.sysctl := by unfold State.ldwPool; split <;> simp
@[simp] theorem State.ldwPool_stepInv (b : BitVec 7) (w : Nat) (s : State) : (s.ldwPool b w).stepInv = s.stepInv := by unfold State.ldwPool; split <;> simp
@[simp] theorem State.ldwPool_dirInv (b : BitVec 7) (w : Nat) (s : State) : (s.ldwPool b w).dirInv = s.dirInv := by unfold State.ldwPool; split <;> simp
@[simp] theorem State.ldwPool_timer (b : BitVec 7) (w : Nat) (s : State) : (s.ldwPool b w).timer = s.timer := by unfold State.ldwPool; split <;> simp
@[simp] theorem State.ldwPool_lines (b : BitVec 7) (w : Nat) (s : State) : (s.ldwPool b w).lines = s.lines := by unfold State.ldwPool; split <;> simp
@[simp] theorem State.ldwPool_spindlePwmOut (b : BitVec 7) (w : Nat) (s : State) : (s.ldwPool b w).spindlePwmOut = s.spindlePwmOut := by unfold State.ldwPool; split <;> simp
@[simp] theorem State.ldwPool_inputs (b : BitVec 7) (w : Nat) (s : State) : (s.ldwPool b w).inputs = s.inputs := by unfold State.ldwPool; split <;> simp
@[simp] theorem State.ldwPool_time (b : BitVec 7) (w : Nat) (s : State) : (s.ldwPool b w).time = s.time := by unfold State.ldwPool; split <;> simp
@[simp] theorem State.ldwPool_trace (b : BitVec 7) (w : Nat) (s : State) : (s.ldwPool b w).trace = s.trace := by unfold State.ldwPool; split <;> simp

@[simp] theorem State.stwPool_cfg (b : BitVec 7) (w : Nat) (d : Word) (s : State) : (s.stwPool b w d).cfg = s.cfg := by unfold State.stwPool; split <;> simp
@[simp] theorem State.stwPool_exec (b : BitVec 7) (w : Nat) (d : Word) (s : State) : (s.stwPool b w d).exec = s.exec := by unfold State.stwPool; split <;> simp
@[simp] theorem State.stwPool_head (b : BitVec 7) (w : Nat) (d : Word) (s : State) : (s.stwPool b w d).head = s.head := by unfold State.stwPool; split <;> simp
@[simp] theorem State.stwPool_tail (b : BitVec 7) (w : Nat) (d : Word) (s : State) : (s.stwPool b w d).tail = s.tail := by unfold State.stwPool; split <;> simp
@[simp] theorem State.stwPool_sysPosition (b : BitVec 7) (w : Nat) (d : Word) (s : State) : (s.stwPool b w d).sysPosition = s.sysPosition := by unfold State.stwPool; split <;> simp
@[simp] theorem State.stwPool_ring (b : BitVec 7) (w : Nat) (d : Word) (s : State) : (s.stwPool b w d).ring = s.ring := by unfold State.stwPool; split <;> simp
@[simp] theorem State.stwPool_epoch (b : BitVec 7) (w : Nat) (d : Word) (s : State) : (s.stwPool b w d).epoch = s.epoch := by unfold State.stwPool; split <;> simp
@[simp] theorem State.stwPool_settings (b : BitVec 7) (w : Nat) (d : Word) (s : State) : (s.stwPool b w d).settings = s.settings := by unfold State.stwPool; split <;> simp
@[simp] theorem State.stwPool_sysctl (b : BitVec 7) (w : Nat) (d : Word) (s : State) : (s.stwPool b w d).sysctl = s.sysctl := by unfold State.stwPool; split <;> simp
@[simp] theorem State.stwPool_stepInv (b : BitVec 7) (w : Nat) (d : Word) (s : State) : (s.stwPool b w d).stepInv = s.stepInv := by unfold State.stwPool; split <;> simp
@[simp] theorem State.stwPool_dirInv (b : BitVec 7) (w : Nat) (d : Word) (s : State) : (s.stwPool b w d).dirInv = s.dirInv := by unfold State.stwPool; split <;> simp
@[simp] theorem State.stwPool_timer (b : BitVec 7) (w : Nat) (d : Word) (s : State) : (s.stwPool b w d).timer = s.timer := by unfold State.stwPool; split <;> simp
@[simp] theorem State.stwPool_lines (b : BitVec 7) (w : Nat) (d : Word) (s : State) : (s.stwPool b w d).lines = s.lines := by unfold State.stwPool; split <;> simp
@[simp] theorem State.stwPool_spindlePwmOut (b : BitVec 7) (w : Nat) (d : Word) (s : State) : (s.stwPool b w d).spindlePwmOut = s.spindlePwmOut := by unfold State.stwPool; split <;> simp
@[simp] theorem State.stwPool_inputs (b : BitVec 7) (w : Nat) (d : Word) (s : State) : (s.stwPool b w d).inputs = s.inputs := by unfold State.stwPool; split <;> simp
@[simp] theorem State.stwPool_time (b : BitVec 7) (w : Nat) (d : Word) (s : State) : (s.stwPool b w d).time = s.time := by unfold State.stwPool; split <;> simp
@[simp] theorem State.stwPool_trace (b : BitVec 7) (w : Nat) (d : Word) (s : State) : (s.stwPool b w d).trace = s.trace := by unfold State.stwPool; split <;> simp

@[simp] theorem State.disableSeq_cfg (ovr : Bool) (s : State) : (s.disableSeq ovr).cfg = s.cfg := by unfold State.disableSeq; dsimp only; split <;> simp
@[simp] theorem State.disableSeq_exec (ovr : Bool) (s : State) : (s.disableSeq ovr).exec = s.exec := by unfold State.disableSeq; dsimp only; split <;> simp
@[simp] theorem State.disableSeq_head (ovr : Bool) (s : State) : (s.disableSeq ovr).head = s.head := by unfold State.disableSeq; dsimp only; split <;> simp
@[simp] theorem State.disableSeq_tail (ovr : Bool) (s : State) : (s.disableSeq ovr).tail = s.tail := by unfold State.disableSeq; dsimp only; split <;> simp
@[simp] theorem State.disableSeq_flags (ovr : Bool) (s : State) : (s.disableSeq ovr).flags = s.flags := by unfold State.disableSeq; dsimp only; split <;> simp
@[simp] theorem State.disableSeq_sysPosition (ovr : Bool) (s : State) : (s.disableSeq ovr).sysPosition = s.sysPosition := by unfold State.disableSeq; dsimp only; split <;> simp
@[simp] theorem State.disableSeq_pool (ovr : Bool) (s : State) : (s.disableSeq ovr).pool = s.pool := by unfold State.disableSeq; dsimp only; split <;> simp
@[simp] theorem State.disableSeq_ring (ovr : Bool) (s : State) : (s.disableSeq ovr).ring = s.ring := by unfold State.disableSeq; dsimp only; split <;> simp
@[simp] theorem State.disableSeq_epoch (ovr : Bool) (s : State) : (s.disableSeq ovr).epoch = s.epoch := by unfold State.disableSeq; dsimp only; split <;> simp
@[simp] theorem State.disableSeq_settings (ovr : Bool) (s : State) : (s.disableSeq ovr).settings = s.settings := by unfold State.disableSeq; dsimp only; split <;> simp
@[simp] theorem State.disableSeq_sysctl (ovr : Bool) (s : State) : (s.disableSeq ovr).sysctl = s.sysctl := by unfold State.disableSeq; dsimp only; split <;> simp
@[simp] theorem State.disableSeq_stepInv (ovr : Bool) (s : State) : (s.disableSeq ovr).stepInv = s.stepInv := by unfold State.disableSeq; dsimp only; split <;> simp
@[simp] theorem State.disableSeq_dirInv (ovr : Bool) (s : State) : (s.disableSeq ovr).dirInv = s.dirInv := by unfold State.disableSeq; dsimp only; split <;> simp
@[simp] theorem State.disableSeq_spindlePwmOut (ovr : Bool) (s : State) : (s.disableSeq ovr).spindlePwmOut = s.spindlePwmOut := by unfold State.disableSeq; dsimp only; split <;> simp
@[simp] theorem State.disableSeq_hostResult (ovr : Bool) (s : State) : (s.disableSeq ovr).hostResult = s.hostResult := by unfold State.disableSeq; dsimp only; split <;> simp
@[simp] theorem State.disableSeq_inputs (ovr : Bool) (s : State) : (s.disableSeq ovr).inputs = s.inputs := by unfold State.disableSeq; dsimp only; split <;> simp

@[simp] theorem State.takeFault_cfg (s : State) : (s.takeFault).cfg = s.cfg := by simp [State.takeFault]
@[simp] theorem State.takeFault_exec (s : State) : (s.takeFault).exec = s.exec := by simp [State.takeFault]
@[simp] theorem State.takeFault_head (s : State) : (s.takeFault).head = s.head := by simp [State.takeFault]
@[simp] theorem State.takeFault_tail (s : State) : (s.takeFault).tail = s.tail := by simp [State.takeFault]
@[simp] theorem State.takeFault_sysPosition (s : State) : (s.takeFault).sysPosition = s.sysPosition := by simp [State.takeFault]
@[simp] theorem State.takeFault_pool (s : State) : (s.takeFault).pool = s.pool := by simp [State.takeFault]
@[simp] theorem State.takeFault_ring (s : State) : (s.takeFault).ring = s.ring := by simp [State.takeFault]
@[simp] theorem State.takeFault_epoch (s : State) : (s.takeFault).epoch = s.epoch := by simp [State.takeFault]
@[simp] theorem State.takeFault_settings (s : State) : (s.takeFault).settings = s.settings := by simp [State.takeFault]
@[simp] theorem State.takeFault_sysctl (s : State) : (s.takeFault).sysctl = s.sysctl := by simp [State.takeFault]
@[simp] theorem State.takeFault_stepInv (s : State) : (s.takeFault).stepInv = s.stepInv := by simp [State.takeFault]
@[simp] theorem State.takeFault_dirInv (s : State) : (s.takeFault).dirInv = s.dirInv := by simp [State.takeFault]
@[simp] theorem State.takeFault_spindlePwmOut (s : State) : (s.takeFault).spindlePwmOut = s.spindlePwmOut := by simp [State.takeFault]
@[simp] theorem State.takeFault_hostResult (s : State) : (s.takeFault).hostResult = s.hostResult := by simp [State.takeFault]
@[simp] theorem State.takeFault_inputs (s : State) : (s.takeFault).inputs = s.inputs := by simp [State.takeFault]

@[simp] theorem State.phaseA_cfg (s : State) : (s.phaseA).cfg = s.cfg := rfl
@[simp] theorem State.phaseA_head (s : State) : (s.phaseA).head = s.head := rfl
@[simp] theorem State.phaseA_tail (s : State) : (s.phaseA).tail = s.tail := rfl
@[simp] theorem State.phaseA_flags (s : State) : (s.phaseA).flags = s.flags := rfl
@[simp] theorem State.phaseA_sysPosition (s : State) : (s.phaseA).sysPosition = s.sysPosition := rfl
@[simp] theorem State.phaseA_pool (s : State) : (s.phaseA).pool = s.pool := rfl
@[simp] theorem State.phaseA_ring (s : State) : (s.phaseA).ring = s.ring := rfl
@[simp] theorem State.phaseA_epoch (s : State) : (s.phaseA).epoch = s.epoch := rfl
@[simp] theorem State.phaseA_settings (s : State) : (s.phaseA).settings = s.settings := rfl
@[simp] theorem State.phaseA_sysctl (s : State) : (s.phaseA).sysctl = s.sysctl := rfl
@[simp] theorem State.phaseA_stepInv (s : State) : (s.phaseA).stepInv = s.stepInv := rfl
@[simp] theorem State.phaseA_dirInv (s : State) : (s.phaseA).dirInv = s.dirInv := rfl
@[simp] theorem State.phaseA_timer (s : State) : (s.phaseA).timer = s.timer := rfl
@[simp] theorem State.phaseA_spindlePwmOut (s : State) : (s.phaseA).spindlePwmOut = s.spindlePwmOut := rfl
@[simp] theorem State.phaseA_hostResult (s : State) : (s.phaseA).hostResult = s.hostResult := rfl
@[simp] theorem State.phaseA_inputs (s : State) : (s.phaseA).inputs = s.inputs := rfl
@[simp] theorem State.phaseA_time (s : State) : (s.phaseA).time = s.time := rfl

@[simp] theorem State.bindBlock_cfg (b : BitVec 8) (s : State) : (s.bindBlock b).cfg = s.cfg := rfl
@[simp] theorem State.bindBlock_head (b : BitVec 8) (s : State) : (s.bindBlock b).head = s.head := rfl
@[simp] theorem State.bindBlock_tail (b : BitVec 8) (s : State) : (s.bindBlock b).tail = s.tail := rfl
@[simp] theorem State.bindBlock_flags (b : BitVec 8) (s : State) : (s.bindBlock b).flags = s.flags := rfl
@[simp] theorem State.bindBlock_sysPosition (b : BitVec 8) (s : State) : (s.bindBlock b).sysPosition = s.sysPosition := rfl
@[simp] theorem State.bindBlock_pool (b : BitVec 8) (s : State) : (s.bindBlock b).pool = s.pool := rfl
@[simp] theorem State.bindBlock_ring (b : BitVec 8) (s : State) : (s.bindBlock b).ring = s.ring := rfl
@[simp] theorem State.bindBlock_epoch (b : BitVec 8) (s : State) : (s.bindBlock b).epoch = s.epoch := rfl
@[simp] theorem State.bindBlock_settings (b : BitVec 8) (s : State) : (s.bindBlock b).settings = s.settings := rfl
@[simp] theorem State.bindBlock_sysctl (b : BitVec 8) (s : State) : (s.bindBlock b).sysctl = s.sysctl := rfl
@[simp] theorem State.bindBlock_stepInv (b : BitVec 8) (s : State) : (s.bindBlock b).stepInv = s.stepInv := rfl
@[simp] theorem State.bindBlock_dirInv (b : BitVec 8) (s : State) : (s.bindBlock b).dirInv = s.dirInv := rfl
@[simp] theorem State.bindBlock_timer (b : BitVec 8) (s : State) : (s.bindBlock b).timer = s.timer := rfl
@[simp] theorem State.bindBlock_lines (b : BitVec 8) (s : State) : (s.bindBlock b).lines = s.lines := rfl
@[simp] theorem State.bindBlock_spindlePwmOut (b : BitVec 8) (s : State) : (s.bindBlock b).spindlePwmOut = s.spindlePwmOut := rfl
@[simp] theorem State.bindBlock_hostResult (b : BitVec 8) (s : State) : (s.bindBlock b).hostResult = s.hostResult := rfl
@[simp] theorem State.bindBlock_inputs (b : BitVec 8) (s : State) : (s.bindBlock b).inputs = s.inputs := rfl
@[simp] theorem State.bindBlock_time (b : BitVec 8) (s : State) : (s.bindBlock b).time = s.time := rfl
@[simp] theorem State.bindBlock_trace (b : BitVec 8) (s : State) : (s.bindBlock b).trace = s.trace := rfl

@[simp] theorem State.setDirections_cfg (s : State) : (s.setDirections).cfg = s.cfg := rfl
@[simp] theorem State.setDirections_head (s : State) : (s.setDirections).head = s.head := rfl
@[simp] theorem State.setDirections_tail (s : State) : (s.setDirections).tail = s.tail := rfl
@[simp] theorem State.setDirections_flags (s : State) : (s.setDirections).flags = s.flags := rfl
@[simp] theorem State.setDirections_sysPosition (s : State) : (s.setDirections).sysPosition = s.sysPosition := rfl
@[simp] theorem State.setDirections_pool (s : State) : (s.setDirections).pool = s.pool := rfl
@[simp] theorem State.setDirections_ring (s : State) : (s.setDirections).ring = s.ring := rfl
@[simp] theorem State.setDirections_epoch (s : State) : (s.setDirections).epoch = s.epoch := rfl
@[simp] theorem State.setDirections_settings (s : State) : (s.setDirections).settings = s.settings := rfl
@[simp] theorem State.setDirections_sysctl (s : State) : (s.setDirections).sysctl = s.sysctl := rfl
@[simp] theorem State.setDirections_stepInv (s : State) : (s.setDirections).stepInv = s.stepInv := rfl
@[simp] theorem State.setDirections_dirInv (s : State) : (s.setDirections).dirInv = s.dirInv := rfl
@[simp] theorem State.setDirections_timer (s : State) : (s.setDirections).timer = s.timer := rfl
@[simp] theorem State.setDirections_spindlePwmOut (s : State) : (s.setDirections).spindlePwmOut = s.spindlePwmOut := rfl
@[simp] theorem State.setDirections_hostResult (s : State) : (s.setDirections).hostResult = s.hostResult := rfl
@[simp] theorem State.setDirections_inputs (s : State) : (s.setDirections).inputs = s.inputs := rfl
@[simp] theorem State.setDirections_time (s : State) : (s.setDirections).time = s.time := rfl

@[simp] theorem State.bindIfNew_cfg (f : Segment) (s : State) : (s.bindIfNew f).cfg = s.cfg := by unfold State.bindIfNew; split <;> simp
@[simp] theorem State.bindIfNew_head (f : Segment) (s : State) : (s.bindIfNew f).head = s.head := by unfold State.bindIfNew; split <;> simp
@[simp] theorem State.bindIfNew_tail (f : Segment) (s : State) : (s.bindIfNew f).tail = s.tail := by unfold State.bindIfNew; split <;> simp
@[simp] theorem State.bindIfNew_flags (f : Segment) (s : State) : (s.bindIfNew f).flags = s.flags := by unfold State.bindIfNew; split <;> simp
@[simp] theorem State.bindIfNew_sysPosition (f : Segment) (s : State) : (s.bindIfNew f).sysPosition = s.sysPosition := by unfold State.bindIfNew; split <;> simp
@[simp] theorem State.bindIfNew_pool (f : Segment) (s : State) : (s.bindIfNew f).pool = s.pool := by unfold State.bindIfNew; split <;> simp
@[simp] theorem State.bindIfNew_ring (f : Segment) (s : State) : (s.bindIfNew f).ring = s.ring := by unfold State.bindIfNew; split <;> simp
@[simp] theorem State.bindIfNew_epoch (f : Segment) (s : State) : (s.bindIfNew f).epoch = s.epoch := by unfold State.bindIfNew; split <;> simp
@[simp] theorem State.bindIfNew_settings (f : Segment) (s : State) : (s.bindIfNew f).settings = s.settings := by unfold State.bindIfNew; split <;> simp
@[simp] theorem State.bindIfNew_sysctl (f : Segment) (s : State) : (s.bindIfNew f).sysctl = s.sysctl := by unfold State.bindIfNew; split <;> simp
@[simp] theorem State.bindIfNew_stepInv (f : Segment) (s : State) : (s.bindIfNew f).stepInv = s.stepInv := by unfold State.bindIfNew; split <;> simp
@[simp] theorem State.bindIfNew_dirInv (f : Segment) (s : State) : (s.bindIfNew f).dirInv = s.dirInv := by unfold State.bindIfNew; split <;> simp
@[simp] theorem State.bindIfNew_timer (f : Segment) (s : State) : (s.bindIfNew f).timer = s.timer := by unfold State.bindIfNew; split <;> simp
@[simp] theorem State.bindIfNew_spindlePwmOut (f : Segment) (s : State) : (s.bindIfNew f).spindlePwmOut = s.spindlePwmOut := by unfold State.bindIfNew; split <;> simp
@[simp] theorem State.bindIfNew_hostResult (f : Segment) (s : State) : (s.bindIfNew f).hostResult = s.hostResult := by unfold State.bindIfNew; split <;> simp
@[simp] theorem State.bindIfNew_inputs (f : Segment) (s : State) : (s.bindIfNew f).inputs = s.inputs := by unfold State.bindIfNew; split <;> simp
@[simp] theorem State.bindIfNew_time (f : Segment) (s : State) : (s.bindIfNew f).time = s.time := by unfold State.bindIfNew; split <;> simp

@[simp] theorem State.loadIncrements_cfg (f : Segment) (s : State) : (s.loadIncrements f).cfg = s.cfg := rfl
@[simp] theorem State.loadIncrements_head (f : Segment) (s : State) : (s.loadIncrements f).head = s.head := rfl
@[simp] theorem State.loadIncrements_tail (f : Segment) (s : State) : (s.loadIncrements f).tail = s.tail := rfl
@[simp] theorem State.loadIncrements_flags (f : Segment) (s : State) : (s.loadIncrements f).flags = s.flags := rfl
@[simp] theorem State.loadIncrements_sysPosition (f : Segment) (s : State) : (s.loadIncrements f).sysPosition = s.sysPosition := rfl
@[simp] theorem State.loadIncrements_pool (f : Segment) (s : State) : (s.loadIncrements f).pool = s.pool := rfl
@[simp] theorem State.loadIncrements_ring (f : Segment) (s : State) : (s.loadIncrements f).ring = s.ring := rfl
@[simp] theorem State.loadIncrements_epoch (f : Segment) (s : State) : (s.loadIncrements f).epoch = s.epoch := rfl
@[simp] theorem State.loadIncrements_settings (f : Segment) (s : State) : (s.loadIncrements f).settings = s.settings := rfl
@[simp] theorem State.loadIncrements_sysctl (f : Segment) (s : State) : (s.loadIncrements f).sysctl = s.sysctl := rfl
@[simp] theorem State.loadIncrements_stepInv (f : Segment) (s : State) : (s.loadIncrements f).stepInv = s.stepInv := rfl
@[simp] theorem State.loadIncrements_dirInv (f : Segment) (s : State) : (s.loadIncrements f).dirInv = s.dirInv := rfl
@[simp] theorem State.loadIncrements_timer (f : Segment) (s : State) : (s.loadIncrements f).timer = s.timer := rfl
@[simp] theorem State.loadIncrements_lines (f : Segment) (s : State) : (s.loadIncrements f).lines = s.lines := rfl
@[simp] theorem State.loadIncrements_spindlePwmOut (f : Segment) (s : State) : (s.loadIncrements f).spindlePwmOut = s.spindlePwmOut := rfl
@[simp] theorem State.loadIncrements_hostResult (f : Segment) (s : State) : (s.loadIncrements f).hostResult = s.hostResult := rfl
@[simp] theorem State.loadIncrements_inputs (f : Segment) (s : State) : (s.loadIncrements f).inputs = s.inputs := rfl
@[simp] theorem State.loadIncrements_time (f : Segment) (s : State) : (s.loadIncrements f).time = s.time := rfl
@[simp] theorem State.loadIncrements_trace (f : Segment) (s : State) : (s.loadIncrements f).trace = s.trace := rfl

@[simp] theorem State.bindSegment_cfg (f : Segment) (s : State) : (s.bindSegment f).cfg = s.cfg := rfl
@[simp] theorem State.bindSegment_head (f : Segment) (s : State) : (s.bindSegment f).head = s.head := rfl
@[simp] theorem State.bindSegment_tail (f : Segment) (s : State) : (s.bindSegment f).tail = s.tail := rfl
@[simp] theorem State.bindSegment_flags (f : Segment) (s : State) : (s.bindSegment f).flags = s.flags := rfl
@[simp] theorem State.bindSegment_sysPosition (f : Segment) (s : State) : (s.bindSegment f).sysPosition = s.sysPosition := rfl
@[simp] theorem State.bindSegment_pool (f : Segment) (s : State) : (s.bindSegment f).pool = s.pool := rfl
@[simp] theorem State.bindSegment_ring (f : Segment) (s : State) : (s.bindSegment f).ring = s.ring := rfl
@[simp] theorem State.bindSegment_epoch (f : Segment) (s : State) : (s.bindSegment f).epoch = s.epoch := rfl
@[simp] theorem State.bindSegment_settings (f : Segment) (s : State) : (s.bindSegment f).settings = s.settings := rfl
@[simp] theorem State.bindSegment_sysctl (f : Segment) (s : State) : (s.bindSegment f).sysctl = s.sysctl := rfl
@[simp] theorem State.bindSegment_stepInv (f : Segment) (s : State) : (s.bindSegment f).stepInv = s.stepInv := rfl
@[simp] theorem State.bindSegment_dirInv (f : Segment) (s : State) : (s.bindSegment f).dirInv = s.dirInv := rfl
@[simp] theorem State.bindSegment_timer (f : Segment) (s : State) : (s.bindSegment f).timer = s.timer := rfl
@[simp] theorem State.bindSegment_lines (f : Segment) (s : State) : (s.bindSegment f).lines = s.lines := rfl
@[simp] theorem State.bindSegment_spindlePwmOut (f : Segment) (s : State) : (s.bindSegment f).spindlePwmOut = s.spindlePwmOut := rfl
@[simp] theorem State.bindSegment_hostResult (f : Segment) (s : State) : (s.bindSegment f).hostResult = s.hostResult := rfl
@[simp] theorem State.bindSegment_inputs (f : Segment) (s : State) : (s.bindSegment f).inputs = s.inputs := rfl
@[simp] theorem State.bindSegment_time (f : Segment) (s : State) : (s.bindSegment f).time = s.time := rfl
@[simp] theorem State.bindSegment_trace (f : Segment) (s : State) : (s.bindSegment f).trace = s.trace := rfl

@[simp] theorem State.loadSegment_cfg (f : Segment) (s : State) : (s.loadSegment f).cfg = s.cfg := by simp [State.loadSegment]
@[simp] theorem State.loadSegment_head (f : Segment) (s : State) : (s.loadSegment f).head = s.head := by simp [State.loadSegment]
@[simp] theorem State.loadSegment_tail (f : Segment) (s : State) : (s.loadSegment f).tail = s.tail := by simp [State.loadSegment]
@[simp] theorem State.loadSegment_flags (f : Segment) (s : State) : (s.loadSegment f).flags = s.flags := by simp [State.loadSegment]
@[simp] theorem State.loadSegment_sysPosition (f : Segment) (s : State) : (s.loadSegment f).sysPosition = s.sysPosition := by simp [State.loadSegment]
@[simp] theorem State.loadSegment_pool (f : Segment) (s : State) : (s.loadSegment f).pool = s.pool := by simp [State.loadSegment]
@[simp] theorem State.loadSegment_ring (f : Segment) (s : State) : (s.loadSegment f).ring = s.ring := by simp [State.loadSegment]
@[simp] theorem State.loadSegment_epoch (f : Segment) (s : State) : (s.loadSegment f).epoch = s.epoch := by simp [State.loadSegment]
@[simp] theorem State.loadSegment_settings (f : Segment) (s : State) : (s.loadSegment f).settings = s.settings := by simp [State.loadSegment]
@[simp] theorem State.loadSegment_sysctl (f : Segment) (s : State) : (s.loadSegment f).sysctl = s.sysctl := by simp [State.loadSegment]
@[simp] theorem State.loadSegment_stepInv (f : Segment) (s : State) : (s.loadSegment f).stepInv = s.stepInv := by simp [State.loadSegment]
@[simp] theorem State.loadSegment_dirInv (f : Segment) (s : State) : (s.loadSegment f).dirInv = s.dirInv := by simp [State.loadSegment]
@[simp] theorem State.loadSegment_hostResult (f : Segment) (s : State) : (s.loadSegment f).hostResult = s.hostResult := by simp [State.loadSegment]
@[simp] theorem State.loadSegment_inputs (f : Segment) (s : State) : (s.loadSegment f).inputs = s.inputs := by simp [State.loadSegment]
@[simp] theorem State.loadSegment_time (f : Segment) (s : State) : (s.loadSegment f).time = s.time := by simp [State.loadSegment]

@[simp] theorem State.phaseC_cfg (f : Segment) (s : State) : (s.phaseC f).cfg = s.cfg := rfl
@[simp] theorem State.phaseC_head (f : Segment) (s : State) : (s.phaseC f).head = s.head := rfl
@[simp] theorem State.phaseC_tail (f : Segment) (s : State) : (s.phaseC f).tail = s.tail := rfl
@[simp] theorem State.phaseC_flags (f : Segment) (s : State) : (s.phaseC f).flags = s.flags := rfl
@[simp] theorem State.phaseC_pool (f : Segment) (s : State) : (s.phaseC f).pool = s.pool := rfl
@[simp] theorem State.phaseC_ring (f : Segment) (s : State) : (s.phaseC f).ring = s.ring := rfl
@[simp] theorem State.phaseC_epoch (f : Segment) (s : State) : (s.phaseC f).epoch = s.epoch := rfl
@[simp] theorem State.phaseC_settings (f : Segment) (s : State) : (s.phaseC f).settings = s.settings := rfl
@[simp] theorem State.phaseC_sysctl (f : Segment) (s : State) : (s.phaseC f).sysctl = s.sysctl := rfl
@[simp] theorem State.phaseC_stepInv (f : Segment) (s : State) : (s.phaseC f).stepInv = s.stepInv := rfl
@[simp] theorem State.phaseC_dirInv (f : Segment) (s : State) : (s.phaseC f).dirInv = s.dirInv := rfl
@[simp] theorem State.phaseC_timer (f : Segment) (s : State) : (s.phaseC f).timer = s.timer := rfl
@[simp] theorem State.phaseC_lines (f : Segment) (s : State) : (s.phaseC f).lines = s.lines := rfl
@[simp] theorem State.phaseC_spindlePwmOut (f : Segment) (s : State) : (s.phaseC f).spindlePwmOut = s.spindlePwmOut := rfl
@[simp] theorem State.phaseC_hostResult (f : Segment) (s : State) : (s.phaseC f).hostResult = s.hostResult := rfl
@[simp] theorem State.phaseC_inputs (f : Segment) (s : State) : (s.phaseC f).inputs = s.inputs := rfl
@[simp] theorem State.phaseC_time (f : Segment) (s : State) : (s.phaseC f).time = s.time := rfl
@[simp] theorem State.phaseC_trace (f : Segment) (s : State) : (s.phaseC f).trace = s.trace := rfl

@[simp] theorem State.homingMask_cfg (s : State) : (s.homingMask).cfg = s.cfg := by unfold State.homingMask; split <;> rfl
@[simp] theorem State.homingMask_head (s : State) : (s.homingMask).head = s.head := by unfold State.homingMask; split <;> rfl
@[simp] theorem State.homingMask_tail (s : State) : (s.homingMask).tail = s.tail := by unfold State.homingMask; split <;> rfl
@[simp] theorem State.homingMask_flags (s : State) : (s.homingMask).flags = s.flags := by unfold State.homingMask; split <;> rfl
@[simp] theorem State.homingMask_sysPosition (s : State) : (s.homingMask).sysPosition = s.sysPosition := by unfold State.homingMask; split <;> rfl
@[simp] theorem State.homingMask_pool (s : State) : (s.homingMask).pool = s.pool := by unfold State.homingMask; split <;> rfl
@[simp] theorem State.homingMask_ring (s : State) : (s.homingMask).ring = s.ring := by unfold State.homingMask; split <;> rfl
@[simp] theorem State.homingMask_epoch (s : State) : (s.homingMask).epoch = s.epoch := by unfold State.homingMask; split <;> rfl
@[simp] theorem State.homingMask_settings (s : State) : (s.homingMask).settings = s.settings := by unfold State.homingMask; split <;> rfl
@[simp] theorem State.homingMask_sysctl (s : State) : (s.homingMask).sysctl = s.sysctl := by unfold State.homingMask; split <;> rfl
@[simp] theorem State.homingMask_stepInv (s : State) : (s.homingMask).stepInv = s.stepInv := by unfold State.homingMask; split <;> rfl
@[simp] theorem State.homingMask_dirInv (s : State) : (s.homingMask).dirInv = s.dirInv := by unfold State.homingMask; split <;> rfl
@[simp] theorem State.homingMask_timer (s : State) : (s.homingMask).timer = s.timer := by unfold State.homingMask; split <;> rfl
@[simp] theorem State.homingMask_lines (s : State) : (s.homingMask).lines = s.lines := by unfold State.homingMask; split <;> rfl
@[simp] theorem State.homingMask_spindlePwmOut (s : State) : (s.homingMask).spindlePwmOut = s.spindlePwmOut := by unfold State.homingMask; split <;> rfl
@[simp] theorem State.homingMask_hostResult (s : State) : (s.homingMask).hostResult = s.hostResult := by unfold State.homingMask; split <;> rfl
@[simp] theorem State.homingMask_inputs (s : State) : (s.homingMask).inputs = s.inputs := by unfold State.homingMask; split <;> rfl
@[simp] theorem State.homingMask_time (s : State) : (s.homingMask).time = s.time := by unfold State.homingMask; split <;> rfl
@[simp] theorem State.homingMask_trace (s : State) : (s.homingMask).trace = s.trace := by unfold State.homingMask; split <;> rfl

@[simp] theorem State.probe_cfg (p : ProbePollPoint) (s : State) : (s.probe p).cfg = s.cfg := by unfold State.probe; split <;> rfl
@[simp] theorem State.probe_exec (p : ProbePollPoint) (s : State) : (s.probe p).exec = s.exec := by unfold State.probe; split <;> rfl
@[simp] theorem State.probe_head (p : ProbePollPoint) (s : State) : (s.probe p).head = s.head := by unfold State.probe; split <;> rfl
@[simp] theorem State.probe_tail (p : ProbePollPoint) (s : State) : (s.probe p).tail = s.tail := by unfold State.probe; split <;> rfl
@[simp] theorem State.probe_flags (p : ProbePollPoint) (s : State) : (s.probe p).flags = s.flags := by unfold State.probe; split <;> rfl
@[simp] theorem State.probe_sysPosition (p : ProbePollPoint) (s : State) : (s.probe p).sysPosition = s.sysPosition := by unfold State.probe; split <;> rfl
@[simp] theorem State.probe_pool (p : ProbePollPoint) (s : State) : (s.probe p).pool = s.pool := by unfold State.probe; split <;> rfl
@[simp] theorem State.probe_ring (p : ProbePollPoint) (s : State) : (s.probe p).ring = s.ring := by unfold State.probe; split <;> rfl
@[simp] theorem State.probe_epoch (p : ProbePollPoint) (s : State) : (s.probe p).epoch = s.epoch := by unfold State.probe; split <;> rfl
@[simp] theorem State.probe_settings (p : ProbePollPoint) (s : State) : (s.probe p).settings = s.settings := by unfold State.probe; split <;> rfl
@[simp] theorem State.probe_sysctl (p : ProbePollPoint) (s : State) : (s.probe p).sysctl = s.sysctl := by unfold State.probe; split <;> rfl
@[simp] theorem State.probe_stepInv (p : ProbePollPoint) (s : State) : (s.probe p).stepInv = s.stepInv := by unfold State.probe; split <;> rfl
@[simp] theorem State.probe_dirInv (p : ProbePollPoint) (s : State) : (s.probe p).dirInv = s.dirInv := by unfold State.probe; split <;> rfl
@[simp] theorem State.probe_timer (p : ProbePollPoint) (s : State) : (s.probe p).timer = s.timer := by unfold State.probe; split <;> rfl
@[simp] theorem State.probe_lines (p : ProbePollPoint) (s : State) : (s.probe p).lines = s.lines := by unfold State.probe; split <;> rfl
@[simp] theorem State.probe_spindlePwmOut (p : ProbePollPoint) (s : State) : (s.probe p).spindlePwmOut = s.spindlePwmOut := by unfold State.probe; split <;> rfl
@[simp] theorem State.probe_hostResult (p : ProbePollPoint) (s : State) : (s.probe p).hostResult = s.hostResult := by unfold State.probe; split <;> rfl
@[simp] theorem State.probe_inputs (p : ProbePollPoint) (s : State) : (s.probe p).inputs = s.inputs := by unfold State.probe; split <;> rfl
@[simp] theorem State.probe_time (p : ProbePollPoint) (s : State) : (s.probe p).time = s.time := by unfold State.probe; split <;> rfl

@[simp] theorem State.countDown_cfg (s : State) : (s.countDown).cfg = s.cfg := by unfold State.countDown; dsimp only; split <;> rfl
@[simp] theorem State.countDown_head (s : State) : (s.countDown).head = s.head := by unfold State.countDown; dsimp only; split <;> rfl
@[simp] theorem State.countDown_flags (s : State) : (s.countDown).flags = s.flags := by unfold State.countDown; dsimp only; split <;> rfl
@[simp] theorem State.countDown_sysPosition (s : State) : (s.countDown).sysPosition = s.sysPosition := by unfold State.countDown; dsimp only; split <;> rfl
@[simp] theorem State.countDown_pool (s : State) : (s.countDown).pool = s.pool := by unfold State.countDown; dsimp only; split <;> rfl
@[simp] theorem State.countDown_ring (s : State) : (s.countDown).ring = s.ring := by unfold State.countDown; dsimp only; split <;> rfl
@[simp] theorem State.countDown_epoch (s : State) : (s.countDown).epoch = s.epoch := by unfold State.countDown; dsimp only; split <;> rfl
@[simp] theorem State.countDown_settings (s : State) : (s.countDown).settings = s.settings := by unfold State.countDown; dsimp only; split <;> rfl
@[simp] theorem State.countDown_sysctl (s : State) : (s.countDown).sysctl = s.sysctl := by unfold State.countDown; dsimp only; split <;> rfl
@[simp] theorem State.countDown_stepInv (s : State) : (s.countDown).stepInv = s.stepInv := by unfold State.countDown; dsimp only; split <;> rfl
@[simp] theorem State.countDown_dirInv (s : State) : (s.countDown).dirInv = s.dirInv := by unfold State.countDown; dsimp only; split <;> rfl
@[simp] theorem State.countDown_timer (s : State) : (s.countDown).timer = s.timer := by unfold State.countDown; dsimp only; split <;> rfl
@[simp] theorem State.countDown_lines (s : State) : (s.countDown).lines = s.lines := by unfold State.countDown; dsimp only; split <;> rfl
@[simp] theorem State.countDown_spindlePwmOut (s : State) : (s.countDown).spindlePwmOut = s.spindlePwmOut := by unfold State.countDown; dsimp only; split <;> rfl
@[simp] theorem State.countDown_hostResult (s : State) : (s.countDown).hostResult = s.hostResult := by unfold State.countDown; dsimp only; split <;> rfl
@[simp] theorem State.countDown_inputs (s : State) : (s.countDown).inputs = s.inputs := by unfold State.countDown; dsimp only; split <;> rfl
@[simp] theorem State.countDown_time (s : State) : (s.countDown).time = s.time := by unfold State.countDown; dsimp only; split <;> rfl
@[simp] theorem State.countDown_trace (s : State) : (s.countDown).trace = s.trace := by unfold State.countDown; dsimp only; split <;> rfl

@[simp] theorem State.runSegment_cfg (f : Segment) (s : State) : (s.runSegment f).cfg = s.cfg := by simp [State.runSegment]
@[simp] theorem State.runSegment_head (f : Segment) (s : State) : (s.runSegment f).head = s.head := by simp [State.runSegment]
@[simp] theorem State.runSegment_flags (f : Segment) (s : State) : (s.runSegment f).flags = s.flags := by simp [State.runSegment]
@[simp] theorem State.runSegment_pool (f : Segment) (s : State) : (s.runSegment f).pool = s.pool := by simp [State.runSegment]
@[simp] theorem State.runSegment_ring (f : Segment) (s : State) : (s.runSegment f).ring = s.ring := by simp [State.runSegment]
@[simp] theorem State.runSegment_epoch (f : Segment) (s : State) : (s.runSegment f).epoch = s.epoch := by simp [State.runSegment]
@[simp] theorem State.runSegment_settings (f : Segment) (s : State) : (s.runSegment f).settings = s.settings := by simp [State.runSegment]
@[simp] theorem State.runSegment_sysctl (f : Segment) (s : State) : (s.runSegment f).sysctl = s.sysctl := by simp [State.runSegment]
@[simp] theorem State.runSegment_stepInv (f : Segment) (s : State) : (s.runSegment f).stepInv = s.stepInv := by simp [State.runSegment]
@[simp] theorem State.runSegment_dirInv (f : Segment) (s : State) : (s.runSegment f).dirInv = s.dirInv := by simp [State.runSegment]
@[simp] theorem State.runSegment_timer (f : Segment) (s : State) : (s.runSegment f).timer = s.timer := by simp [State.runSegment]
@[simp] theorem State.runSegment_lines (f : Segment) (s : State) : (s.runSegment f).lines = s.lines := by simp [State.runSegment]
@[simp] theorem State.runSegment_spindlePwmOut (f : Segment) (s : State) : (s.runSegment f).spindlePwmOut = s.spindlePwmOut := by simp [State.runSegment]
@[simp] theorem State.runSegment_hostResult (f : Segment) (s : State) : (s.runSegment f).hostResult = s.hostResult := by simp [State.runSegment]
@[simp] theorem State.runSegment_inputs (f : Segment) (s : State) : (s.runSegment f).inputs = s.inputs := by simp [State.runSegment]
@[simp] theorem State.runSegment_time (f : Segment) (s : State) : (s.runSegment f).time = s.time := by simp [State.runSegment]

@[simp] theorem State.segmentTick_cfg (f : Segment) (s : State) : (s.segmentTick f).cfg = s.cfg := by unfold State.segmentTick; dsimp only; split_ifs <;> simp
@[simp] theorem State.segmentTick_head (f : Segment) (s : State) : (s.segmentTick f).head = s.head := by unfold State.segmentTick; dsimp only; split_ifs <;> simp
@[simp] theorem State.segmentTick_pool (f : Segment) (s : State) : (s.segmentTick f).pool = s.pool := by unfold State.segmentTick; dsimp only; split_ifs <;> simp
@[simp] theorem State.segmentTick_ring (f : Segment) (s : State) : (s.segmentTick f).ring = s.ring := by unfold State.segmentTick; dsimp only; split_ifs <;> simp
@[simp] theorem State.segmentTick_epoch (f : Segment) (s : State) : (s.segmentTick f).epoch = s.epoch := by unfold State.segmentTick; dsimp only; split_ifs <;> simp
@[simp] theorem State.segmentTick_settings (f : Segment) (s : State) : (s.segmentTick f).settings = s.settings := by unfold State.segmentTick; dsimp only; split_ifs <;> simp
@[simp] theorem State.segmentTick_sysctl (f : Segment) (s : State) : (s.segmentTick f).sysctl = s.sysctl := by unfold State.segmentTick; dsimp only; split_ifs <;> simp
@[simp] theorem State.segmentTick_stepInv (f : Segment) (s : State) : (s.segmentTick f).stepInv = s.stepInv := by unfold State.segmentTick; dsimp only; split_ifs <;> simp
@[simp] theorem State.segmentTick_dirInv (f : Segment) (s : State) : (s.segmentTick f).dirInv = s.dirInv := by unfold State.segmentTick; dsimp only; split_ifs <;> simp
@[simp] theorem State.segmentTick_hostResult (f : Segment) (s : State) : (s.segmentTick f).hostResult = s.hostResult := by unfold State.segmentTick; dsimp only; split_ifs <;> simp
@[simp] theorem State.segmentTick_inputs (f : Segment) (s : State) : (s.segmentTick f).inputs = s.inputs := by unfold State.segmentTick; dsimp only; split_ifs <;> simp

@[simp] theorem State.shutdown_cfg (s : State) : (s.shutdown).cfg = s.cfg := by unfold State.shutdown; dsimp only; split <;> simp
@[simp] theorem State.shutdown_exec (s : State) : (s.shutdown).exec = s.exec := by unfold State.shutdown; dsimp only; split <;> simp
@[simp] theorem State.shutdown_head (s : State) : (s.shutdown).head = s.head := by unfold State.shutdown; dsimp only; split <;> simp
@[simp] theorem State.shutdown_tail (s : State) : (s.shutdown).tail = s.tail := by unfold State.shutdown; dsimp only; split <;> simp
@[simp] theorem State.shutdown_sysPosition (s : State) : (s.shutdown).sysPosition = s.sysPosition := by unfold State.shutdown; dsimp only; split <;> simp
@[simp] theorem State.shutdown_pool (s : State) : (s.shutdown).pool = s.pool := by unfold State.shutdown; dsimp only; split <;> simp
@[simp] theorem State.shutdown_ring (s : State) : (s.shutdown).ring = s.ring := by unfold State.shutdown; dsimp only; split <;> simp
@[simp] theorem State.shutdown_epoch (s : State) : (s.shutdown).epoch = s.epoch := by unfold State.shutdown; dsimp only; split <;> simp
@[simp] theorem State.shutdown_settings (s : State) : (s.shutdown).settings = s.settings := by unfold State.shutdown; dsimp only; split <;> simp
@[simp] theorem State.shutdown_sysctl (s : State) : (s.shutdown).sysctl = s.sysctl := by unfold State.shutdown; dsimp only; split <;> simp
@[simp] theorem State.shutdown_stepInv (s : State) : (s.shutdown).stepInv = s.stepInv := by unfold State.shutdown; dsimp only; split <;> simp
@[simp] theorem State.shutdown_dirInv (s : State) : (s.shutdown).dirInv = s.dirInv := by unfold State.shutdown; dsimp only; split <;> simp
@[simp] theorem State.shutdown_hostResult (s : State) : (s.shutdown).hostResult = s.hostResult := by unfold State.shutdown; dsimp only; split <;> simp
@[simp] theorem State.shutdown_inputs (s : State) : (s.shutdown).inputs = s.inputs := by unfold State.shutdown; dsimp only; split <;> simp

@[simp] theorem State.tickHandler_cfg (s : State) : (s.tickHandler).cfg = s.cfg := by unfold State.tickHandler; split <;> simp
@[simp] theorem State.tickHandler_head (s : State) : (s.tickHandler).head = s.head := by unfold State.tickHandler; split <;> simp
@[simp] theorem State.tickHandler_pool (s : State) : (s.tickHandler).pool = s.pool := by unfold State.tickHandler; split <;> simp
@[simp] theorem State.tickHandler_ring (s : State) : (s.tickHandler).ring = s.ring := by unfold State.tickHandler; split <;> simp
@[simp] theorem State.tickHandler_epoch (s : State) : (s.tickHandler).epoch = s.epoch := by unfold State.tickHandler; split <;> simp
@[simp] theorem State.tickHandler_settings (s : State) : (s.tickHandler).settings = s.settings := by unfold State.tickHandler; split <;> simp
@[simp] theorem State.tickHandler_sysctl (s : State) : (s.tickHandler).sysctl = s.sysctl := by unfold State.tickHandler; split <;> simp
@[simp] theorem State.tickHandler_stepInv (s : State) : (s.tickHandler).stepInv = s.stepInv := by unfold State.tickHandler; split <;> simp
@[simp] theorem State.tickHandler_dirInv (s : State) : (s.tickHandler).dirInv = s.dirInv := by unfold State.tickHandler; split <;> simp
@[simp] theorem State.tickHandler_hostResult (s : State) : (s.tickHandler).hostResult = s.hostResult := by unfold State.tickHandler; split <;> simp
@[simp] theorem State.tickHandler_inputs (s : State) : (s.tickHandler).inputs = s.inputs := by unfold State.tickHandler; split <;> simp

/-! ## What each composed operation does -/

/-- The Disable sequence, whole (40_host_commands R139): what it writes, and that it writes nothing else. -/
theorem State.disableSeq_eq (ovr : Bool) (s : State) :
    s.disableSeq ovr =
      { s with
        timer := { s.timer with run := false }
        lines := { s.lines with
          step := s.stepInv &&& s.cfg.axisMask
          en := (s.dwells || ovr) ^^ s.settings.invertStEnable
          drvEnabled := !(s.dwells || ovr) }
        time := s.time + if s.dwells then s.cfg.dwellClocks s.settings.idleLock else 0
        trace := s.idleSteps.trace ++
          [⟨s.time + (if s.dwells then s.cfg.dwellClocks s.settings.idleLock else 0),
            .enSet ((s.dwells || ovr) ^^ s.settings.invertStEnable)⟩] } := by
  unfold State.disableSeq
  cases h : s.dwells <;> apply State.ext <;> simp <;> rfl

/-- The engine fault, whole (60_exceptions R276). -/
theorem State.takeFault_eq (s : State) :
    s.takeFault =
      { s with
        timer := { s.timer with run := false }
        lines := { s.lines with step := s.stepInv &&& s.cfg.axisMask }
        flags := { s.flags with faultBadidx := true }
        time := s.time + s.lastPulseClocks
        trace := (s.wait s.lastPulseClocks).idleSteps.trace } := by
  unfold State.takeFault
  apply State.ext <;> simp <;> rfl

/-- Phase A, whole (41_see_tick R171, R172). -/
theorem State.phaseA_eq (s : State) :
    s.phaseA =
      { s with
        exec := { s.exec with stepOutbits := 0 }
        lines := { s.lines with
          step := ((s.lines.step &&& ~~~s.exec.stepOutbits) ||| (~~~s.stepInv &&& s.exec.stepOutbits)) &&&
            s.cfg.axisMask }
        trace := (s.raiseSteps s.exec.stepOutbits).trace } := rfl

/-- After a block that is not new, the bound block is the segment's (41_see_tick R180). -/
theorem isNewBlock_eq_false {e : ExecState} {f : Segment} (h : isNewBlock e f = false) :
    e.blockValid = true ∧ e.blockIndex = f.stBlockIndex := by
  simp only [isNewBlock, Bool.or_eq_false_iff, Bool.not_eq_false', bne_eq_false_iff_eq] at h
  exact ⟨h.1, h.2.symm⟩

/-- Loading a segment, ExecState (41_see_tick R177, R179 to R183). -/
theorem State.loadSegment_exec (f : Segment) (s : State) :
    (s.loadSegment f).exec =
      { counter :=
          if isNewBlock s.exec f then
            AxisVec.ofFn fun i =>
              if s.cfg.hasAxis i then s.blkSec f.stBlockIndex.toNat >>> 1 else s.exec.counter.get i
          else s.exec.counter
        steps := AxisVec.ofFn fun i =>
          if s.cfg.hasAxis i then s.blkSteps f.stBlockIndex.toNat i.val >>> f.amassLevel.toNat
          else s.exec.steps.get i
        stepCount := f.nStep
        blockIndex := f.stBlockIndex
        blockValid := true
        segValid := true
        stepOutbits := s.exec.stepOutbits
        dirOutbits :=
          if isNewBlock s.exec f then s.blkDirBits f.stBlockIndex.toNat ^^^ s.dirInv else s.exec.dirOutbits } := by
  unfold State.loadSegment State.bindIfNew
  have e : isNewBlock ((s.bindSegment f).programTimer (clampReload s.cfg f.cyclesPerTick)).exec f =
      isNewBlock s.exec f := rfl
  rw [e]
  cases h : isNewBlock s.exec f
  · obtain ⟨h1, h2⟩ := isNewBlock_eq_false h
    simp only [Bool.false_eq_true, if_false]
    rw [← h2]
    apply ExecState.ext <;> first | rfl | exact h1
  · rfl

/-- Loading a segment, the timer (41_see_tick R179). -/
@[simp] theorem State.loadSegment_timer (f : Segment) (s : State) :
    (s.loadSegment f).timer =
      { s.timer with
        arr := clampReload s.cfg f.cyclesPerTick, ccr := compareOf (clampReload s.cfg f.cyclesPerTick) } := by
  unfold State.loadSegment State.bindIfNew
  split <;> rfl

/-- Loading a segment, the spindle port (41_see_tick R184). -/
@[simp] theorem State.loadSegment_spindlePwmOut (f : Segment) (s : State) :
    (s.loadSegment f).spindlePwmOut = f.spindlePwm := rfl

/-- Loading a segment, the lines: only DIR, and only for a new block (41_see_tick R182). -/
theorem State.loadSegment_lines (f : Segment) (s : State) :
    (s.loadSegment f).lines =
      if isNewBlock s.exec f then
        { s.lines with dir := (s.blkDirBits f.stBlockIndex.toNat ^^^ s.dirInv) &&& s.cfg.axisMask }
      else s.lines := by
  unfold State.loadSegment State.bindIfNew
  have e : isNewBlock ((s.bindSegment f).programTimer (clampReload s.cfg f.cyclesPerTick)).exec f =
      isNewBlock s.exec f := rfl
  rw [e]
  cases h : isNewBlock s.exec f <;> rfl

/-- Loading a segment, the trace: direction changes of a new block, then the spindle write. -/
theorem State.loadSegment_trace (f : Segment) (s : State) :
    (s.loadSegment f).trace =
      s.trace ++
        (((if isNewBlock s.exec f then
            s.cfg.axes.flatMap fun i =>
              s.dirEvent i ((s.blkDirBits f.stBlockIndex.toNat ^^^ s.dirInv).bit i)
          else []) ++ [OutEvent.spindleWrite f.spindlePwm]).map fun e => ⟨s.time, e⟩) := by
  unfold State.loadSegment State.bindIfNew
  have e : isNewBlock ((s.bindSegment f).programTimer (clampReload s.cfg f.cyclesPerTick)).exec f =
      isNewBlock s.exec f := rfl
  rw [e]
  cases h : isNewBlock s.exec f
  · simp only [Bool.false_eq_true, if_false, List.nil_append]
    rfl
  · simp only [if_true, List.map_append, ← List.append_assoc]
    rfl

/-- What one tick of a bound segment reads from the pool does not change in Phase A or at a probe strobe. -/
@[simp] theorem State.probe_axisUpdate (p : ProbePollPoint) (s : State) (i : Axis) :
    (s.probe p).axisUpdate i = s.axisUpdate i := by
  unfold State.probe
  split <;> rfl

@[simp] theorem State.probe_axisSteps (p : ProbePollPoint) (s : State) (i : Axis) :
    (s.probe p).axisSteps i = s.axisSteps i := by
  unfold State.probe
  split <;> rfl

@[simp] theorem State.probe_blkDirBits (p : ProbePollPoint) (s : State) (b : Nat) :
    (s.probe p).blkDirBits b = s.blkDirBits b := by
  unfold State.probe
  split <;> rfl

/-- The step bits a tick leaves: those decided, less the axes homing locks (41_see_tick R185, R187). -/
def State.decidedBits (s : State) : AxisBits :=
  let bits := s.exec.stepOutbits ||| AxisBits.ofFn fun i => s.axisSteps i
  if s.sysctl.homing then bits &&& s.sysctl.homingLock else bits

/-- One tick of a bound segment, ExecState (41_see_tick R185, R187, R189). -/
theorem State.runSegment_exec (f : Segment) (s : State) :
    (s.runSegment f).exec =
      { s.exec with
        counter := AxisVec.ofFn fun i => if s.cfg.hasAxis i then (s.axisUpdate i).acc else s.exec.counter.get i
        stepOutbits := s.decidedBits
        stepCount := s.exec.stepCount - 1
        segValid := if s.exec.stepCount - 1 = 0 then false else s.exec.segValid } := by
  have hp : ∀ p, (s.probe p).exec = s.exec := fun p => State.probe_exec p s
  unfold State.runSegment State.countDown
  simp only [State.probe_exec, State.probe_tail, State.probe_cfg]
  unfold State.homingMask State.decidedBits
  simp only [State.phaseC_sysctl, State.probe_sysctl]
  unfold State.phaseC
  simp only [State.probe_exec, State.probe_cfg, State.probe_axisUpdate, State.probe_axisSteps,
    State.probe_sysctl]
  cases s.sysctl.homing <;> split_ifs <;> rfl

/-- One tick of a bound segment, the sequencer (41_see_tick R189). -/
theorem State.runSegment_tail (f : Segment) (s : State) :
    (s.runSegment f).tail = if s.exec.stepCount - 1 = 0 then nextIndex s.cfg s.tail else s.tail := by
  unfold State.runSegment State.countDown
  have e : ((((s.probe .beforeC).phaseC f).homingMask).probe .afterC).exec.stepCount = s.exec.stepCount := by
    rw [State.probe_exec]
    unfold State.homingMask
    split <;> simp [State.phaseC]
  simp only [e]
  split <;> simp

/-- One tick of a bound segment, the positions (41_see_tick R186). -/
theorem State.runSegment_sysPosition (f : Segment) (s : State) :
    (s.runSegment f).sysPosition =
      AxisVec.ofFn fun i =>
        if s.axisSteps i && !f.backlashMotion then
          movePosition ((s.blkDirBits s.exec.blockIndex.toNat).bit i) (s.sysPosition.get i)
        else s.sysPosition.get i := by
  unfold State.runSegment
  simp only [State.countDown_sysPosition, State.probe_sysPosition, State.homingMask_sysPosition]
  unfold State.phaseC
  simp only [State.probe_axisSteps, State.probe_blkDirBits, State.probe_exec, State.probe_sysPosition]

/-- One tick of a bound segment, the trace: at most one probe strobe (41_see_tick R188). -/
theorem State.runSegment_trace (f : Segment) (s : State) :
    (s.runSegment f).trace =
      if s.sysctl.probeActive then s.trace ++ [⟨s.time, .probePoll⟩] else s.trace := by
  have hc : ∀ t : State, t.countDown.trace = t.trace := State.countDown_trace
  unfold State.runSegment
  rw [hc]
  have e1 : ∀ (t : State) (p : ProbePollPoint), (t.probe p).trace =
      if t.sysctl.probeActive && t.cfg.probePollPoint == p then t.trace ++ [⟨t.time, .probePoll⟩] else t.trace := by
    intro t p
    unfold State.probe
    split <;> rfl
  simp only [e1, State.homingMask_sysctl, State.homingMask_cfg, State.homingMask_trace, State.homingMask_time,
    State.phaseC_sysctl, State.phaseC_cfg, State.phaseC_trace, State.phaseC_time, State.probe_sysctl, State.probe_cfg,
    State.probe_time]
  cases s.sysctl.probeActive <;> cases s.cfg.probePollPoint <;> simp

/-- A tick of a segment, by cases: bound, bad index, loading (41_see_tick R173, R178). -/
theorem State.segmentTick_cases (f : Segment) (s : State) :
    (s.exec.segValid = true ∧ s.segmentTick f = s.phaseA.runSegment f) ∨
      (s.exec.segValid = false ∧ s.cfg.nBlk ≤ f.stBlockIndex.toNat ∧ s.segmentTick f = s.phaseA.takeFault) ∨
      (s.exec.segValid = false ∧ f.stBlockIndex.toNat < s.cfg.nBlk ∧
        s.segmentTick f = (s.phaseA.loadSegment f).runSegment f) := by
  unfold State.segmentTick
  cases h : s.exec.segValid
  · by_cases hb : s.cfg.nBlk ≤ f.stBlockIndex.toNat
    · exact .inr (.inl ⟨rfl, hb, by simp [hb]⟩)
    · exact .inr (.inr ⟨rfl, by omega, by simp [hb]⟩)
  · exact .inl ⟨rfl, by simp⟩

/-- The handler, by cases: a segment to execute, or the ring-empty shutdown (41_see_tick R173, R174). -/
theorem State.tickHandler_cases (s : State) :
    (s.hasSegment = true ∧ s.tickHandler = s.segmentTick (s.segment s.tail)) ∨
      (s.exec.segValid = false ∧ s.head = s.tail ∧ s.tickHandler = s.phaseA.shutdown) := by
  unfold State.tickHandler
  cases h : s.hasSegment
  · right
    simp only [State.hasSegment, State.isEmpty, Bool.or_eq_false_iff, Bool.not_eq_false', beq_iff_eq] at h
    exact ⟨h.1, h.2, by simp⟩
  · exact .inl ⟨rfl, by simp⟩

/-- The ring-empty shutdown, whole (41_see_tick R174). -/
theorem State.shutdown_eq (s : State) :
    s.shutdown =
      { (s.wait s.lastPulseClocks).disableSeq false with
        spindlePwmOut := if s.lastBlockAdjusted then s.cfg.spindlePwmOff else s.spindlePwmOut
        flags := { s.flags with cycleStop := true }
        trace := ((s.wait s.lastPulseClocks).disableSeq false).trace ++
          ((if s.lastBlockAdjusted then [OutEvent.spindleWrite s.cfg.spindlePwmOff] else []) ++ [OutEvent.cycleStop]).map
            fun e => ⟨((s.wait s.lastPulseClocks).disableSeq false).time, e⟩ } := by
  unfold State.shutdown
  dsimp only
  rw [State.disableSeq_eq]
  cases h : s.lastBlockAdjusted
  · rfl
  · simp only [if_true, State.emit, State.emitAll, State.raise, State.spindleWrite, List.map_cons, List.map_nil,
      List.append_assoc, List.cons_append, List.nil_append, State.wait]
    rfl


end Sys2Proof.Machine
end

