-- ==== Sys2Proof/Laws/Exec.lean ====
section
/-! SUPPORT. What `exec` can do, said once: every instruction answers a next state, and which state that is. -/

namespace Sys2Proof.Machine

/-- Every instruction answers a next state. -/
theorem exec_next (i : Instr) (s : State) : ∃ t, exec i s = .next t := by
  cases i
  case ldwPos k =>
    simp only [exec, execLdwPos]
    split <;> exact ⟨_, rfl⟩
  all_goals exact ⟨_, rfl⟩

/-- What a command does is what its instruction does. -/
theorem exec_toInstr (c : Command) (s : State) : exec c.toInstr s = .next (commandEffect c s) := by
  cases c <;> rfl

/-- A write to `CMD` is the command its word encodes, or a refusal (40_host_commands R136, R138). -/
theorem cmdWriteEffect_eq (d : Word) (s : State) :
    cmdWriteEffect d s = match decodeCommand d with
      | some c => commandEffect c s
      | none => s.refuse .errCmd := rfl

/-- A write of a settings register: the settings change, and the masks stay within the existing axes. -/
structure SettingsWrite (s t : State) : Prop where
  state : t = { s with settings := t.settings }
  stepInv : t.settings.stepInv = s.settings.stepInv ∨ ∃ d, t.settings.stepInv = d &&& s.cfg.axisMask
  dirInv : t.settings.dirInv = s.settings.dirInv ∨ ∃ d, t.settings.dirInv = d &&& s.cfg.axisMask

/-- Every state an instruction can lead to, by the kind of instruction. -/
theorem exec_cases {i : Instr} {s t : State} (h : exec i s = .next t) :
    (∃ f, i = .seg f ∧ t = s.segmentTick f) ∨ (i = .tick ∧ t = s.tickHandler) ∨ (i = .preset ∧ t = s.idleSteps) ∨
    (∃ c : Command, (i = c.toInstr ∨ ∃ d, i = .stwCmd d ∧ decodeCommand d = some c) ∧ t = commandEffect c s) ∨
    (∃ d, i = .stwCmd d ∧ decodeCommand d = none ∧ t = s.refuse .errCmd) ∨
    (∃ v, t = s.hostReturn v) ∨ (∃ we, t = s.busError we) ∨
    (∃ d, i = .stwFlags d ∧ t = s.clearFlags d) ∨
    (∃ d, i = .stwSegw0 d ∧ t = s.setSegW0 d) ∨ (∃ d, i = .stwSegw1 d ∧ t = s.setSegW1 d) ∨
    (∃ b w d, s.hasPoolWord b w = true ∧ t = s.setPoolWord b w d) ∨ SettingsWrite s t ∨
    (∃ h p d, t = { s with sysctl := ⟨h, p, d &&& s.cfg.axisMask⟩ }) := by
  have read : ∀ b w, (∃ v, s.ldwPool b w = s.hostReturn v) ∨ (∃ we, s.ldwPool b w = s.busError we) := by
    intro b w
    unfold State.ldwPool
    split
    · exact .inl ⟨_, rfl⟩
    · exact .inr ⟨_, rfl⟩
  have write : ∀ b w d, (∃ we, s.stwPool b w d = s.busError we) ∨
      (∃ b' w' d', s.hasPoolWord b' w' = true ∧ s.stwPool b w d = s.setPoolWord b' w' d') := by
    intro b w d
    unfold State.stwPool
    split
    · exact .inr ⟨b, w, d, by assumption, rfl⟩
    · exact .inl ⟨_, rfl⟩
  cases i
  case seg f => cases h; exact .inl ⟨f, rfl, rfl⟩
  case tick => cases h; exact .inr (.inl ⟨rfl, rfl⟩)
  case preset => cases h; exact .inr (.inr (.inl ⟨rfl, rfl⟩))
  case init => cases h; exact .inr (.inr (.inr (.inl ⟨.init, .inl rfl, rfl⟩)))
  case wake => cases h; exact .inr (.inr (.inr (.inl ⟨.wake, .inl rfl, rfl⟩)))
  case disable o => cases h; exact .inr (.inr (.inr (.inl ⟨.disable o, .inl rfl, rfl⟩)))
  case reset => cases h; exact .inr (.inr (.inr (.inl ⟨.reset, .inl rfl, rfl⟩)))
  case genmask => cases h; exact .inr (.inr (.inr (.inl ⟨.genmask, .inl rfl, rfl⟩)))
  case publish => cases h; exact .inr (.inr (.inr (.inl ⟨.publish, .inl rfl, rfl⟩)))
  case stwCmd d =>
    cases h
    rw [cmdWriteEffect_eq]
    cases hd : decodeCommand d with
    | some c => exact .inr (.inr (.inr (.inl ⟨c, .inr ⟨d, rfl, hd⟩, rfl⟩)))
    | none => exact .inr (.inr (.inr (.inr (.inl ⟨d, rfl, hd, rfl⟩))))
  case stwFlags d => cases h; iterate 7 apply Or.inr
                     exact .inl ⟨d, rfl, rfl⟩
  case stwSegw0 d => cases h; iterate 8 apply Or.inr
                     exact .inl ⟨d, rfl, rfl⟩
  case stwSegw1 d => cases h; iterate 9 apply Or.inr
                     exact .inl ⟨d, rfl, rfl⟩
  case stwSetStepInv d => cases h; iterate 11 apply Or.inr
                          exact .inl ⟨rfl, .inr ⟨_, rfl⟩, .inl rfl⟩
  case stwSetDirInv d => cases h; iterate 11 apply Or.inr
                         exact .inl ⟨rfl, .inl rfl, .inr ⟨_, rfl⟩⟩
  case stwSetFlags d => cases h; iterate 11 apply Or.inr
                        exact .inl ⟨rfl, .inl rfl, .inl rfl⟩
  case stwSetIdleLock d => cases h; iterate 11 apply Or.inr
                           exact .inl ⟨rfl, .inl rfl, .inl rfl⟩
  case stwSysctl d => cases h; iterate 12 apply Or.inr
                      exact ⟨_, _, _, rfl⟩
  case ldwPos k =>
    simp only [exec, execLdwPos] at h
    iterate 5 apply Or.inr
    split at h
    · cases h; exact .inl ⟨_, rfl⟩
    · cases h; exact .inr (.inl ⟨_, rfl⟩)
  all_goals cases h
  all_goals iterate 5 apply Or.inr
  all_goals first
    | exact .inl ⟨_, rfl⟩
    | (rcases read _ _ with h | h
       · exact .inl h
       · exact .inr (.inl h))
    | (rcases write _ _ _ with h | h
       · exact .inr (.inl h)
       · exact .inr (.inr (.inr (.inr (.inr (.inl h))))))

end Sys2Proof.Machine
end

