-- ==== Sys2Proof/Laws/Memory.lean ====
section
/-! SUPPORT. Laws of byte memory: read after write, the canonical form, words. -/

namespace Sys2Proof.Machine

theorem Memory.read_write_same (m : Memory) (a : Nat) (v : Byte) : (m.write a v).read a = some v := by
  induction m with
  | nil => simp [Memory.write, Memory.read]
  | cons p m ih =>
    obtain ⟨k, w⟩ := p
    simp only [Memory.write]
    split
    · simp [Memory.read]
    · split
      · simp [Memory.read]
      · rename_i h1 h2
        have : k ≠ a := fun h => h2 h.symm
        simp [Memory.read, this, ih]

theorem Memory.read_write_other (m : Memory) {a b : Nat} (v : Byte) (h : b ≠ a) :
    (m.write a v).read b = m.read b := by
  induction m with
  | nil => simp [Memory.write, Memory.read, h.symm]
  | cons p m ih =>
    obtain ⟨k, w⟩ := p
    simp only [Memory.write]
    split
    · simp [Memory.read, h.symm]
    · split
      · rename_i h2
        subst h2
        simp [Memory.read, h.symm]
      · simp [Memory.read, ih]

/-- Reading a byte after writing one. -/
theorem Memory.read_write (m : Memory) (a b : Nat) (v : Byte) :
    (m.write a v).read b = if b = a then some v else m.read b := by
  by_cases h : b = a
  · subst h; simp [Memory.read_write_same]
  · simp [h, Memory.read_write_other m v h]

/-- Every key of a written memory is the address written or an old key. -/
theorem Memory.mem_write {m : Memory} {a : Nat} {v : Byte} {p : Host.Cell} (h : p ∈ m.write a v) :
    p.1 = a ∨ p ∈ m := by
  induction m with
  | nil => simp_all [Memory.write]
  | cons q m ih =>
    obtain ⟨k, w⟩ := q
    simp only [Memory.write] at h
    split at h
    · simp only [List.mem_cons] at h ⊢
      rcases h with rfl | h | h <;> simp_all
    · split at h
      · simp only [List.mem_cons] at h ⊢
        rcases h with rfl | h <;> simp_all
      · simp only [List.mem_cons] at h ⊢
        rcases h with rfl | h
        · simp
        · rcases ih h with h | h <;> simp [h]

/-- A write keeps the canonical form. -/
theorem Memory.write_wf {m : Memory} (h : m.wf) (a : Nat) (v : Byte) : (m.write a v).wf := by
  induction m with
  | nil => simp [Memory.write, Memory.wf]
  | cons q m ih =>
    obtain ⟨k, w⟩ := q
    simp only [Memory.wf, List.pairwise_cons] at h
    simp only [Memory.write]
    split
    · rename_i hlt
      simp only [Memory.wf, List.pairwise_cons, List.mem_cons]
      refine ⟨?_, h.1, h.2⟩
      rintro p (rfl | hp)
      · exact hlt
      · exact lt_trans hlt (h.1 p hp)
    · split
      · rename_i heq
        subst heq
        simp only [Memory.wf, List.pairwise_cons]
        exact h
      · simp only [Memory.wf, List.pairwise_cons]
        refine ⟨?_, ih h.2⟩
        intro p hp
        rcases Memory.mem_write hp with h' | h'
        · omega
        · exact h.1 p h'

theorem Memory.writeWord_wf {m : Memory} (h : m.wf) (a : Nat) (v : Word) : (m.writeWord a v).wf :=
  Memory.write_wf (Memory.write_wf (Memory.write_wf (Memory.write_wf h _ _) _ _) _ _) _ _

/-- A byte outside the word is untouched. -/
theorem Memory.read_writeWord_other (m : Memory) {a b : Nat} (v : Word) (h : b < a ∨ a + 4 ≤ b) :
    (m.writeWord a v).read b = m.read b := by
  simp only [Memory.writeWord, Memory.read_write]
  rw [if_neg (by omega), if_neg (by omega), if_neg (by omega), if_neg (by omega)]

/-- The word written is the word read. -/
theorem Memory.readWord_writeWord_same (m : Memory) (free : Nat → Byte) (a : Nat) (v : Word) :
    (m.writeWord a v).readWord free a = v := by
  have e0 : (m.writeWord a v).read (a + 0) = some (v.extractLsb' 0 8) := by
    simp [Memory.writeWord, Memory.read_write]
  have e1 : (m.writeWord a v).read (a + 1) = some (v.extractLsb' 8 8) := by
    simp [Memory.writeWord, Memory.read_write]
  have e2 : (m.writeWord a v).read (a + 2) = some (v.extractLsb' 16 8) := by
    simp [Memory.writeWord, Memory.read_write]
  have e3 : (m.writeWord a v).read (a + 3) = some (v.extractLsb' 24 8) := by
    simp [Memory.writeWord, Memory.read_write]
  simp only [Memory.readWord, e0, e1, e2, e3, Option.getD_some]
  apply BitVec.eq_of_getLsbD_eq
  intro i hi
  simp only [BitVec.getLsbD_append, BitVec.getLsbD_extractLsb']
  split
  · simp_all
  · split
    · have : i - 8 < 8 := by omega
      have e : 8 + (i - 8) = i := by omega
      simp [*]
    · split
      · have : i - 8 - 8 < 8 := by omega
        have e : 16 + (i - 8 - 8) = i := by omega
        simp [*]
      · have : i - 8 - 8 - 8 < 8 := by omega
        have e : 24 + (i - 8 - 8 - 8) = i := by omega
        simp [*]

/-- A word away from the one written is untouched. -/
theorem Memory.readWord_writeWord_other (m : Memory) (free : Nat → Byte) {a b : Nat} (v : Word)
    (h : b + 4 ≤ a ∨ a + 4 ≤ b) : (m.writeWord a v).readWord free b = m.readWord free b := by
  simp only [Memory.readWord]
  rw [Memory.read_writeWord_other m v (by omega), Memory.read_writeWord_other m v (by omega),
    Memory.read_writeWord_other m v (by omega), Memory.read_writeWord_other m v (by omega)]

/-- Every key after a word write is an old key or one of the word's four addresses. -/
theorem Memory.mem_writeWord {m : Memory} {a : Nat} {v : Word} {p : Host.Cell} (h : p ∈ m.writeWord a v) :
    (a ≤ p.1 ∧ p.1 < a + 4) ∨ p ∈ m := by
  rcases Memory.mem_write h with h | h
  · exact .inl (by omega)
  rcases Memory.mem_write h with h | h
  · exact .inl (by omega)
  rcases Memory.mem_write h with h | h
  · exact .inl (by omega)
  rcases Memory.mem_write h with h | h
  · exact .inl (by omega)
  · exact .inr h

end Sys2Proof.Machine
end

