-- ==== Sys2Proof/Laws/PerInstr.lean ====
section
/-! SUPPORT. Family `TableBits`, one lemma per instruction: the word the encoder gives an instruction has the format,
the fixed bits and the index constraint of its row of spec/opcode_table.json. -/

namespace Sys2Proof.Laws.TableBits

open Sys2Proof

/-- The bits of a row: the value under `match` and which bits are fixed, in the table's numbering. -/
structure TableRow where
  format : Format
  value : Nat
  mask : Nat

/-- Row of `INIT`, `WAKE`, `RESET`, `GENMASK` or `PUBLISH`: every bit is fixed. -/
def commandRow (value : Nat) : TableRow := ⟨.cmd32, value, 0xFFFFFFFF⟩

/-- Row of a scalar register: `we ++ addr`, every bit fixed. -/
def scalarRow (value : Nat) : TableRow := ⟨.mmio, value, 0x1FFF⟩

/-- Row of a pool word: the direction and the low five address bits are fixed. -/
def poolRow (value : Nat) : TableRow := ⟨.mmio, value, 0x101F⟩

/-- The row of an instruction; `none` for the zero-width rows. -/
def tableRow : Instr → Option TableRow
  | .seg _ => some ⟨.seg64, 0x0000000000000000, 0x0000000000000000⟩
  | .init => some (commandRow 0x00000001)
  | .wake => some (commandRow 0x00000002)
  | .disable _ => some ⟨.cmd32, 0x00000003, 0xFFFFFEFF⟩
  | .reset => some (commandRow 0x00000004)
  | .genmask => some (commandRow 0x00000005)
  | .publish => some (commandRow 0x00000006)
  | .stwCmd _ => some (scalarRow 0x1000)
  | .ldwStatus => some (scalarRow 0x0004)
  | .ldwFlags => some (scalarRow 0x0008)
  | .stwFlags _ => some (scalarRow 0x1008)
  | .ldwHead => some (scalarRow 0x000C)
  | .ldwTail => some (scalarRow 0x0010)
  | .ldwSetStepInv => some (scalarRow 0x0014)
  | .stwSetStepInv _ => some (scalarRow 0x1014)
  | .ldwSetDirInv => some (scalarRow 0x0018)
  | .stwSetDirInv _ => some (scalarRow 0x1018)
  | .ldwSetFlags => some (scalarRow 0x001C)
  | .stwSetFlags _ => some (scalarRow 0x101C)
  | .ldwSetIdleLock => some (scalarRow 0x0020)
  | .stwSetIdleLock _ => some (scalarRow 0x1020)
  | .ldwSysctl => some (scalarRow 0x0024)
  | .stwSysctl _ => some (scalarRow 0x1024)
  | .ldwSegw0 => some (scalarRow 0x0028)
  | .stwSegw0 _ => some (scalarRow 0x1028)
  | .ldwSegw1 => some (scalarRow 0x002C)
  | .stwSegw1 _ => some (scalarRow 0x102C)
  | .ldwStepInv => some (scalarRow 0x0030)
  | .ldwDirInv => some (scalarRow 0x0034)
  | .ldwPins => some (scalarRow 0x0038)
  | .ldwSpindle => some (scalarRow 0x003C)
  | .ldwTimArr => some (scalarRow 0x0060)
  | .ldwTimCcr => some (scalarRow 0x0064)
  | .ldwTimCnt => some (scalarRow 0x0068)
  | .ldwPos _ => some ⟨.mmio, 0x0040, 0x1FE3⟩
  | .ldwBlkSec _ => some (poolRow 0x0000)
  | .stwBlkSec _ _ => some (poolRow 0x1000)
  | .ldwBlkFlg _ => some (poolRow 0x0004)
  | .stwBlkFlg _ _ => some (poolRow 0x1004)
  | .ldwBlkSteps0 _ => some (poolRow 0x0008)
  | .stwBlkSteps0 _ _ => some (poolRow 0x1008)
  | .ldwBlkSteps1 _ => some (poolRow 0x000C)
  | .stwBlkSteps1 _ _ => some (poolRow 0x100C)
  | .ldwBlkSteps2 _ => some (poolRow 0x0010)
  | .stwBlkSteps2 _ _ => some (poolRow 0x1010)
  | .ldwBlkSteps3 _ => some (poolRow 0x0014)
  | .stwBlkSteps3 _ _ => some (poolRow 0x1014)
  | .ldwBlkSteps4 _ => some (poolRow 0x0018)
  | .stwBlkSteps4 _ _ => some (poolRow 0x1018)
  | .ldwBlkSteps5 _ => some (poolRow 0x001C)
  | .stwBlkSteps5 _ _ => some (poolRow 0x101C)
  | .tick => none
  | .preset => none

/-- The format of a word. -/
def formatOf : Encoded → Format
  | .seg64 _ => .seg64
  | .cmd32 _ => .cmd32
  | .mmio _ _ _ => .mmio

/-- The 13 bits `we ++ addr`. -/
def mmioNumber : Bool → BitVec 12 → Nat
  | true, addr => 0x1000 + addr.toNat
  | false, addr => addr.toNat

/-- A word as the table numbers its bits; of a transaction the 13 bits `we ++ addr`. -/
def tableNumber : Encoded → Nat
  | .seg64 w => w.toNat
  | .cmd32 w => w.toNat
  | .mmio we addr _ => mmioNumber we addr

/-- The word satisfies the row: its format, its fixed bits and, for a pool row, `addr >= 0x100`. -/
def Fits (e : Encoded) (r : TableRow) : Prop :=
  formatOf e = r.format ∧ tableNumber e &&& r.mask = r.value ∧ (r.mask = 0x101F → 0x100 ≤ tableNumber e &&& 0xFFF)

/-- A well-formed instruction's word fits its row; an instruction without a row has no word. -/
def Statement (i : Instr) : Prop :=
  WellFormed i = true →
    match encode i, tableRow i with
    | some e, some r => Fits e r
    | none, none => True
    | _, _ => False

/-- A scalar register's transaction fits its row when its 13 bits are the row's. -/
theorem scalar_fits {we : Bool} {addr : BitVec 12} {d : Word} {v : Nat} (h : mmioNumber we addr &&& 0x1FFF = v) :
    Fits (.mmio we addr d) (scalarRow v) :=
  ⟨rfl, h, fun e => absurd e (show ¬ 0x1FFF = 0x101F by decide)⟩

/-- The address of a pool word: direction and low five bits are those of its row, and it lies in the pool. -/
theorem poolAddr_bits : ∀ (we : Bool) (word : BitVec 3) (b : BitVec 7), wfBlock b = true →
    mmioNumber we (poolAddr b word) &&& 0x101F = mmioNumber we 0 + 4 * word.toNat ∧
      0x100 ≤ mmioNumber we (poolAddr b word) &&& 0xFFF := by
  decide

/-- A pool word's transaction fits its row. -/
theorem pool_fits {we : Bool} {b : BitVec 7} {d : Word} (word : BitVec 3) (h : wfBlock b = true) :
    Fits (.mmio we (poolAddr b word) d) (poolRow (mmioNumber we 0 + 4 * word.toNat)) :=
  ⟨rfl, (poolAddr_bits we word b h).1, fun _ => (poolAddr_bits we word b h).2⟩

/-- The address of a position register. -/
theorem posAddr_bits : ∀ i : BitVec 3, mmioNumber false (posAddr i) &&& 0x1FE3 = 0x0040 := by
  decide

theorem seg (f : Segment) : Statement (.seg f) :=
  fun _ => ⟨rfl, Nat.and_zero _, fun h => absurd h (by decide)⟩

theorem init : Statement (.init) :=
  fun _ => ⟨rfl, rfl, fun h => absurd h (by decide)⟩

theorem wake : Statement (.wake) :=
  fun _ => ⟨rfl, rfl, fun h => absurd h (by decide)⟩

theorem disable (ovr : Bool) : Statement (.disable ovr) :=
  by cases ovr <;> exact fun _ => ⟨rfl, rfl, fun h => absurd h (by decide)⟩

theorem reset : Statement (.reset) :=
  fun _ => ⟨rfl, rfl, fun h => absurd h (by decide)⟩

theorem genmask : Statement (.genmask) :=
  fun _ => ⟨rfl, rfl, fun h => absurd h (by decide)⟩

theorem publish : Statement (.publish) :=
  fun _ => ⟨rfl, rfl, fun h => absurd h (by decide)⟩

theorem stwCmd (d : Word) : Statement (.stwCmd d) :=
  fun _ => scalar_fits (by decide)

theorem ldwStatus : Statement (.ldwStatus) :=
  fun _ => scalar_fits (by decide)

theorem ldwFlags : Statement (.ldwFlags) :=
  fun _ => scalar_fits (by decide)

theorem stwFlags (d : Word) : Statement (.stwFlags d) :=
  fun _ => scalar_fits (by decide)

theorem ldwHead : Statement (.ldwHead) :=
  fun _ => scalar_fits (by decide)

theorem ldwTail : Statement (.ldwTail) :=
  fun _ => scalar_fits (by decide)

theorem ldwSetStepInv : Statement (.ldwSetStepInv) :=
  fun _ => scalar_fits (by decide)

theorem stwSetStepInv (d : Word) : Statement (.stwSetStepInv d) :=
  fun _ => scalar_fits (by decide)

theorem ldwSetDirInv : Statement (.ldwSetDirInv) :=
  fun _ => scalar_fits (by decide)

theorem stwSetDirInv (d : Word) : Statement (.stwSetDirInv d) :=
  fun _ => scalar_fits (by decide)

theorem ldwSetFlags : Statement (.ldwSetFlags) :=
  fun _ => scalar_fits (by decide)

theorem stwSetFlags (d : Word) : Statement (.stwSetFlags d) :=
  fun _ => scalar_fits (by decide)

theorem ldwSetIdleLock : Statement (.ldwSetIdleLock) :=
  fun _ => scalar_fits (by decide)

theorem stwSetIdleLock (d : Word) : Statement (.stwSetIdleLock d) :=
  fun _ => scalar_fits (by decide)

theorem ldwSysctl : Statement (.ldwSysctl) :=
  fun _ => scalar_fits (by decide)

theorem stwSysctl (d : Word) : Statement (.stwSysctl d) :=
  fun _ => scalar_fits (by decide)

theorem ldwSegw0 : Statement (.ldwSegw0) :=
  fun _ => scalar_fits (by decide)

theorem stwSegw0 (d : Word) : Statement (.stwSegw0 d) :=
  fun _ => scalar_fits (by decide)

theorem ldwSegw1 : Statement (.ldwSegw1) :=
  fun _ => scalar_fits (by decide)

theorem stwSegw1 (d : Word) : Statement (.stwSegw1 d) :=
  fun _ => scalar_fits (by decide)

theorem ldwStepInv : Statement (.ldwStepInv) :=
  fun _ => scalar_fits (by decide)

theorem ldwDirInv : Statement (.ldwDirInv) :=
  fun _ => scalar_fits (by decide)

theorem ldwPins : Statement (.ldwPins) :=
  fun _ => scalar_fits (by decide)

theorem ldwSpindle : Statement (.ldwSpindle) :=
  fun _ => scalar_fits (by decide)

theorem ldwTimArr : Statement (.ldwTimArr) :=
  fun _ => scalar_fits (by decide)

theorem ldwTimCcr : Statement (.ldwTimCcr) :=
  fun _ => scalar_fits (by decide)

theorem ldwTimCnt : Statement (.ldwTimCnt) :=
  fun _ => scalar_fits (by decide)

theorem ldwPos (i : BitVec 3) : Statement (.ldwPos i) :=
  fun _ => ⟨rfl, posAddr_bits i, fun h => absurd h (by decide)⟩

theorem ldwBlkSec (b : BitVec 7) : Statement (.ldwBlkSec b) :=
  pool_fits 0

theorem stwBlkSec (b : BitVec 7) (d : Word) : Statement (.stwBlkSec b d) :=
  pool_fits 0

theorem ldwBlkFlg (b : BitVec 7) : Statement (.ldwBlkFlg b) :=
  pool_fits 1

theorem stwBlkFlg (b : BitVec 7) (d : Word) : Statement (.stwBlkFlg b d) :=
  pool_fits 1

theorem ldwBlkSteps0 (b : BitVec 7) : Statement (.ldwBlkSteps0 b) :=
  pool_fits 2

theorem stwBlkSteps0 (b : BitVec 7) (d : Word) : Statement (.stwBlkSteps0 b d) :=
  pool_fits 2

theorem ldwBlkSteps1 (b : BitVec 7) : Statement (.ldwBlkSteps1 b) :=
  pool_fits 3

theorem stwBlkSteps1 (b : BitVec 7) (d : Word) : Statement (.stwBlkSteps1 b d) :=
  pool_fits 3

theorem ldwBlkSteps2 (b : BitVec 7) : Statement (.ldwBlkSteps2 b) :=
  pool_fits 4

theorem stwBlkSteps2 (b : BitVec 7) (d : Word) : Statement (.stwBlkSteps2 b d) :=
  pool_fits 4

theorem ldwBlkSteps3 (b : BitVec 7) : Statement (.ldwBlkSteps3 b) :=
  pool_fits 5

theorem stwBlkSteps3 (b : BitVec 7) (d : Word) : Statement (.stwBlkSteps3 b d) :=
  pool_fits 5

theorem ldwBlkSteps4 (b : BitVec 7) : Statement (.ldwBlkSteps4 b) :=
  pool_fits 6

theorem stwBlkSteps4 (b : BitVec 7) (d : Word) : Statement (.stwBlkSteps4 b d) :=
  pool_fits 6

theorem ldwBlkSteps5 (b : BitVec 7) : Statement (.ldwBlkSteps5 b) :=
  pool_fits 7

theorem stwBlkSteps5 (b : BitVec 7) (d : Word) : Statement (.stwBlkSteps5 b d) :=
  pool_fits 7

theorem tick : Statement (.tick) :=
  fun _ => trivial

theorem preset : Statement (.preset) :=
  fun _ => trivial

end Sys2Proof.Laws.TableBits
end

