-- ==== Sys2Proof/Laws/Step.lean ====
section
/-! SUPPORT. What `step` can do, said once. -/

namespace Sys2Proof.Machine

/-- A step of a machine whose configuration is legal: power-on, a host transaction, or a timer clock. -/
theorem step_of_legal {s : State} (h : s.cfg.legal = true) : step s = inputStep s := by
  simp [step, h]

/-- A timer clock on a running timer, by its three cases (42_pulse_reset_and_timer R213). -/
theorem runningClock_cases (s : State) :
    (s.timer.tcnt + 1 = s.timer.arr ∧
      runningClock s = exec (engineInstr s) { s with timer := { s.timer with tcnt := 0 } }) ∨
    (s.timer.tcnt + 1 ≠ s.timer.arr ∧ s.timer.tcnt + 1 = s.timer.ccr ∧
      runningClock s = exec .preset { s with timer := { s.timer with tcnt := s.timer.tcnt + 1 } }) ∨
    (s.timer.tcnt + 1 ≠ s.timer.arr ∧ s.timer.tcnt + 1 ≠ s.timer.ccr ∧
      runningClock s = .next { s with timer := { s.timer with tcnt := s.timer.tcnt + 1 } }) := by
  unfold runningClock
  split_ifs with h1 h2
  · exact .inl ⟨h1, rfl⟩
  · exact .inr (.inl ⟨h1, h2, rfl⟩)
  · exact .inr (.inr ⟨h1, h2, rfl⟩)

/-- What the engine executes at a period end: the segment at `tail`, or the handler on an empty ring. Either way it is
what the handler does (41_see_tick R170, R173). -/
theorem engineInstr_cases (s : State) :
    (s.hasSegment = true ∧ engineInstr s = .seg (s.segment s.tail)) ∨
      (s.hasSegment = false ∧ engineInstr s = .tick) := by
  unfold engineInstr
  cases h : s.hasSegment
  · exact .inr ⟨rfl, by simp⟩
  · exact .inl ⟨rfl, rfl⟩

/-- Running the fetched instruction is running the handler. -/
theorem exec_engineInstr (s : State) (cnt : Half) :
    exec (engineInstr s) { s with timer := { s.timer with tcnt := cnt } } =
      .next ({ s with timer := { s.timer with tcnt := cnt } } : State).tickHandler := by
  rcases engineInstr_cases s with ⟨h, e⟩ | ⟨h, e⟩
  · rw [e]
    have h' : ({ s with timer := { s.timer with tcnt := cnt } } : State).hasSegment = true := h
    simp only [exec, execSeg, State.tickHandler, h', if_true]
    rfl
  · rw [e]
    rfl

/-- Every next state of a step: the configuration is legal, and the state is that of a power-on, of a host
instruction, of a refused transaction, of a clock that only counts, of `PRESET`, or of the handler. -/
theorem step_cases {s t : State} (h : step s = .next t) :
    s.cfg.legal = true ∧
    ((∃ rest, s.inputs = .powerOn :: rest ∧ t = { State.powerOn s.cfg (s.epoch + 1) with inputs := rest }) ∨
     (∃ x rest i, s.inputs = .host x :: rest ∧ hostInstr x = .ok i ∧ exec i { s with inputs := rest } = .next t) ∨
     (∃ x rest e, s.inputs = .host x :: rest ∧ hostInstr x = .error e ∧
        t = ({ s with inputs := rest } : State).busError x.we) ∨
     (∃ rest, (s.inputs = .clk :: rest ∨ (s.inputs = [] ∧ rest = [])) ∧
       ((s.timer.run = false ∧ t = { s with inputs := rest, time := s.time + 1 }) ∨
        (s.timer.run = true ∧ s.timer.tcnt + 1 = s.timer.arr ∧
          t = ({ s with
            inputs := rest, time := s.time + 1, timer := { s.timer with tcnt := 0 } } : State).tickHandler) ∨
        (s.timer.run = true ∧ s.timer.tcnt + 1 ≠ s.timer.arr ∧ s.timer.tcnt + 1 = s.timer.ccr ∧
          t = ({ s with
            inputs := rest, time := s.time + 1
            timer := { s.timer with tcnt := s.timer.tcnt + 1 } } : State).idleSteps) ∨
        (s.timer.run = true ∧ s.timer.tcnt + 1 ≠ s.timer.arr ∧ s.timer.tcnt + 1 ≠ s.timer.ccr ∧
          t = { s with
            inputs := rest, time := s.time + 1, timer := { s.timer with tcnt := s.timer.tcnt + 1 } })))) := by
  unfold step at h
  split_ifs at h with hl
  refine ⟨hl, ?_⟩
  have clock : ∀ rest, clockStep { s with inputs := rest } = .next t →
      ((s.timer.run = false ∧ t = { s with inputs := rest, time := s.time + 1 }) ∨
        (s.timer.run = true ∧ s.timer.tcnt + 1 = s.timer.arr ∧
          t = ({ s with
            inputs := rest, time := s.time + 1, timer := { s.timer with tcnt := 0 } } : State).tickHandler) ∨
        (s.timer.run = true ∧ s.timer.tcnt + 1 ≠ s.timer.arr ∧ s.timer.tcnt + 1 = s.timer.ccr ∧
          t = ({ s with
            inputs := rest, time := s.time + 1
            timer := { s.timer with tcnt := s.timer.tcnt + 1 } } : State).idleSteps) ∨
        (s.timer.run = true ∧ s.timer.tcnt + 1 ≠ s.timer.arr ∧ s.timer.tcnt + 1 ≠ s.timer.ccr ∧
          t = { s with
            inputs := rest, time := s.time + 1, timer := { s.timer with tcnt := s.timer.tcnt + 1 } })) := by
    intro rest h
    unfold clockStep at h
    split_ifs at h with hr
    · rcases runningClock_cases { s with inputs := rest, time := s.time + 1 } with ⟨h1, e⟩ | ⟨h1, h2, e⟩ | ⟨h1, h2, e⟩
      · rw [e, exec_engineInstr] at h
        cases h
        exact .inr (.inl ⟨hr, h1, rfl⟩)
      · rw [e] at h
        cases h
        exact .inr (.inr (.inl ⟨hr, h1, h2, rfl⟩))
      · rw [e] at h
        cases h
        exact .inr (.inr (.inr ⟨hr, h1, h2, rfl⟩))
    · cases h
      exact .inl ⟨by simpa using hr, rfl⟩
  unfold inputStep takeInput at h
  cases hi : s.inputs with
  | nil =>
    simp only [hi, List.head?_nil, List.tail_nil] at h
    exact .inr (.inr (.inr ⟨[], .inr ⟨rfl, rfl⟩, clock [] h⟩))
  | cons x rest =>
    simp only [hi, List.head?_cons, List.tail_cons] at h
    cases x with
    | clk => exact .inr (.inr (.inr ⟨rest, .inl rfl, clock rest h⟩))
    | powerOn =>
      cases h
      exact .inl ⟨rest, rfl, rfl⟩
    | host x =>
      simp only [hostStep] at h
      split at h
      · exact .inr (.inl ⟨x, rest, _, rfl, by assumption, h⟩)
      · cases h
        exact .inr (.inr (.inl ⟨x, rest, _, rfl, by assumption, rfl⟩))

end Sys2Proof.Machine
end

