-- ==== Sys2Proof/Laws/Storage.lean ====
section
/-! SUPPORT. Laws of the ring indices and of the two memories as State holds them: every operation that writes a
memory keeps its canonical form, and the POR memories have it. -/

namespace Sys2Proof.Machine

/-! ## Values in their registers -/

/-- `STEP_TIMER_MIN` of a legal configuration fits the reload register (00_scope R6). -/
theorem stepTimerMin_toNat {c : Config} (h : c.legal = true) :
    (BitVec.ofNat 16 c.stepTimerMin).toNat = c.stepTimerMin := by
  have h' := (Config.legal_iff c).1 h
  simp only [BitVec.toNat_ofNat]
  omega

/-- The clamped reload is the larger of the two numbers (41_see_tick R179). -/
theorem clampReload_toNat {c : Config} (h : c.legal = true) (v : Half) :
    (clampReload c v).toNat = max v.toNat c.stepTimerMin := by
  have h' := (Config.legal_iff c).1 h
  have := v.isLt
  simp only [clampReload, BitVec.toNat_ofNat]
  omega

/-- The next index of a legal configuration's ring (10_state R30). -/
theorem nextIndex_toNat {c : Config} (h : c.legal = true) (k : BitVec 8) :
    (nextIndex c k).toNat = (k.toNat + 1) % c.nSeg := by
  have h' := (Config.legal_iff c).1 h
  have := Nat.mod_lt (k.toNat + 1) (show 0 < c.nSeg by omega)
  simp only [nextIndex, BitVec.toNat_ofNat]
  omega

/-! ## The canonical form of the memories -/

theorem State.setSegW0_ring_wf (d : Word) {s : State} (h : s.ring.wf) : (s.setSegW0 d).ring.wf :=
  Memory.writeWord_wf h _ _

theorem State.setSegW1_ring_wf (d : Word) {s : State} (h : s.ring.wf) : (s.setSegW1 d).ring.wf :=
  Memory.writeWord_wf h _ _

theorem State.setPoolWord_pool_wf (b : BitVec 7) (word : Nat) (d : Word) {s : State} (h : s.pool.wf) :
    (s.setPoolWord b word d).pool.wf :=
  Memory.writeWord_wf h _ _

theorem State.forgetMemories_wf (s : State) : s.forgetMemories.ring.wf ∧ s.forgetMemories.pool.wf :=
  ⟨List.Pairwise.nil, List.Pairwise.nil⟩

theorem placeSegment_ring_wf (w : SegWord) {s : State} (h : s.ring.wf) : (placeSegment w s).ring.wf :=
  Memory.writeWord_wf (Memory.writeWord_wf h _ _) _ _

/-- Ring and pool are in canonical form after POR, in every configuration. -/
theorem State.powerOn_memories_wf (c : Config) (n : Nat) : (State.powerOn c n).ring.wf ∧ (State.powerOn c n).pool.wf :=
  ⟨List.Pairwise.nil, List.Pairwise.nil⟩

/-- Ring and pool are in canonical form at reset. -/
theorem State.reset_memories_wf : State.reset.ring.wf ∧ State.reset.pool.wf :=
  State.powerOn_memories_wf Config.reference 0

/-! ## Words of the two memories -/

/-- A word of the ring after a ring write at another word. -/
theorem State.ringWord_setSegW0_other (d : Word) (s : State) {a : Nat}
    (h : a + 4 ≤ 8 * s.head.toNat ∨ 8 * s.head.toNat + 4 ≤ a) : (s.setSegW0 d).ringWord a = s.ringWord a :=
  Memory.readWord_writeWord_other _ _ _ h

/-- A word of the ring after a ring write at another word. -/
theorem State.ringWord_setSegW1_other (d : Word) (s : State) {a : Nat}
    (h : a + 4 ≤ 8 * s.head.toNat + 4 ∨ 8 * s.head.toNat + 4 + 4 ≤ a) : (s.setSegW1 d).ringWord a = s.ringWord a :=
  Memory.readWord_writeWord_other _ _ _ h

/-- A word of the pool after a pool write at another word. -/
theorem State.poolWord_setPoolWord_other (b : BitVec 7) (word : Nat) (d : Word) (s : State) {a : Nat}
    (h : a + 4 ≤ poolByteAddr b.toNat word ∨ poolByteAddr b.toNat word + 4 ≤ a) :
    (s.setPoolWord b word d).poolWord a = s.poolWord a :=
  Memory.readWord_writeWord_other _ _ _ h

end Sys2Proof.Machine
end

