-- ==== Sys2Proof/Laws/Trace.lean ====
section
/-! SUPPORT. Laws of the output trace: the events each shared operation emits. -/

namespace Sys2Proof.Machine

theorem eventsOf_append (a b : List TraceEntry) : eventsOf (a ++ b) = eventsOf a ++ eventsOf b :=
  List.map_append

/-- The events of a stretch stamped with one time. -/
theorem eventsOf_stamped (t : Nat) (es : List OutEvent) : eventsOf (es.map fun e => ⟨t, e⟩) = es := by
  simp only [eventsOf, List.map_map]
  exact List.map_id' es

/-- One event per axis that meets a condition, as a filter. -/
theorem flatMap_single (g : Axis → Bool) (h : Axis → OutEvent) (l : List Axis) :
    (l.flatMap fun i => if g i then [h i] else []) = (l.filter g).map h := by
  induction l with
  | nil => rfl
  | cons a l ih =>
    rw [List.flatMap_cons, ih, List.filter_cons]
    cases g a <;> rfl

/-- Idling the STEP lines: a fall for each line that was active (42_pulse_reset_and_timer R210, R211). -/
theorem State.idleSteps_falls (s : State) :
    s.idleSteps.trace =
      s.trace ++ (s.cfg.axes.filter fun i => s.stepActive i).map fun i => ⟨s.time, .stepFall i⟩ := by
  have e : (fun i => s.stepEvent i (s.stepInv.bit i)) = fun i => if s.stepActive i then [OutEvent.stepFall i] else [] := by
    funext i
    by_cases h : s.lines.step.bit i = s.stepInv.bit i <;> simp [State.stepEvent, State.stepActive, h]
  show s.trace ++ _ = _
  rw [e, flatMap_single, List.map_map]
  rfl

/-- Driving one STEP line as Phase A does: the active level where the bit is set, else the level it has. -/
theorem raise_event (i : Axis) (old inv bit : Bool) :
    (if old = ((old && !bit) || (!inv && bit)) then []
      else if ((old && !bit) || (!inv && bit)) = inv then [OutEvent.stepFall i] else [OutEvent.stepRise i]) =
      if bit && !(old != inv) then [OutEvent.stepRise i] else [] := by
  cases old <;> cases inv <;> cases bit <;> rfl

/-- Phase A: a rise for each decided step whose line is idle (41_see_tick R171). -/
theorem State.phaseA_rises (s : State) :
    s.phaseA.trace = s.trace ++ s.decidedRises.map fun e => ⟨s.time, e⟩ := by
  have e : (fun i => s.stepEvent i
        (AxisBits.bit ((s.lines.step &&& ~~~s.exec.stepOutbits) ||| (~~~s.stepInv &&& s.exec.stepOutbits)) i)) =
      fun i => if s.exec.stepOutbits.bit i && !s.stepActive i then [OutEvent.stepRise i] else [] := by
    funext i
    simp only [State.stepEvent, AxisBits.bit_or, AxisBits.bit_and, AxisBits.bit_not]
    exact raise_event i _ _ _
  show s.trace ++ List.map _ (s.cfg.axes.flatMap _) = _
  rw [e, flatMap_single]
  rfl

/-- The lines that are active once Phase A is done: those raised and those left active. -/
theorem State.phaseA_stepActive (s : State) {i : Axis} (h : s.cfg.hasAxis i = true) :
    s.phaseA.stepActive i = (s.exec.stepOutbits.bit i || s.stepActive i) := by
  simp only [State.stepActive, State.phaseA_eq, AxisBits.bit_and, AxisBits.bit_or, AxisBits.bit_not,
    Config.axisMask_bit, h]
  cases s.lines.step.bit i <;> cases s.exec.stepOutbits.bit i <;> cases s.stepInv.bit i <;> rfl

/-- Idling the lines right after Phase A. -/
theorem State.phaseA_falls (s : State) :
    (s.cfg.axes.filter fun i => s.phaseA.stepActive i).map OutEvent.stepFall = s.fallsAfterPhaseA := by
  unfold State.fallsAfterPhaseA
  congr 1
  apply List.filter_congr
  intro i hi
  exact State.phaseA_stepActive s ((Config.mem_axes _ _).1 hi)

/-- Whether the sequence dwells and disables without an override (40_host_commands R139). -/
theorem State.dwells_iff (s : State) :
    s.dwells = true ↔ (s.settings.idleLock.toNat ≠ 255 ∧ s.sysctl.homing = false) := by
  simp only [State.dwells, Bool.and_eq_true, bne_iff_ne, ne_eq, Bool.not_eq_true', ← BitVec.toNat_inj]
  rfl

/-- The direction bit of an existing axis is that bit of the entry's `FLG` word (30_encoding R102). -/
theorem State.blkDirBits_bit (s : State) (b : Nat) {i : Axis} (h : s.cfg.hasAxis i = true) :
    (s.blkDirBits b).bit i = (s.blkFlg b).getLsbD i.val := by
  simp only [State.blkDirBits, AxisBits.bit_and, Config.axisMask_bit, h, Bool.and_true]
  simp [AxisBits.bit]

/-! ## The wires -/

theorem State.wireLevel_of_driven {s : State} (h : s.lines.pinsDriven = true) (line : Nat) (latch : Bool) :
    s.wireLevel line latch = latch :=
  if_pos h

theorem State.mirrorLevel_of_axis {s : State} {i : Axis} (h : s.cfg.hasAxis i = true) (line : Nat) (latch : Bool) :
    s.mirrorLevel line i latch = s.wireLevel line latch :=
  if_pos h

end Sys2Proof.Machine
end

