-- ==== Sys2Proof/Tests/Slice0.lean ====
section
/-! SUPPORT. The model's own tests: ill-formed terms refused, words written out from the spec's encodings, single steps
whose results the spec gives (95_test_vectors, 41_see_tick section 8), and witnesses of the statements' hypotheses. -/

open Sys2Proof Sys2Proof.Machine

namespace Sys2Proof.Tests

/-! ## Small states -/

/-- The next state of an instruction; the state itself where there is none. -/
def run1 (i : Instr) (s : State) : State :=
  match exec i s with
  | .next t => t
  | _ => s

/-- The next state of a step; the state itself where there is none. -/
def step1 (s : State) : State :=
  match step s with
  | .next t => t
  | _ => s

/-- What a read returns. -/
def readBack (i : Instr) (s : State) : Nat :=
  (run1 i s).hostResult.toNat

/-- Store and publish a segment. -/
def push (f : Segment) (s : State) : State :=
  publishEffect ((s.setSegW0 ((encodeSegment f).extractLsb' 0 32)).setSegW1 ((encodeSegment f).extractLsb' 32 32))

/-- Segment A of the worked example of 41_see_tick section 8. -/
def segA : Segment := ⟨2, 2000, 1, 1, false, 100⟩

/-- Segment B of the worked example. -/
def segB : Segment := ⟨1, 4000, 1, 0, false, 120⟩

/-- The worked example's pool entry 1: planner counts 2, 1, 0, the Y axis negative. -/
def pooled : State :=
  ((((State.reset.setPoolWord 1 0 16).setPoolWord 1 1 2).setPoolWord 1 2 16).setPoolWord 1 3 8).setPoolWord 1 4 0

/-- The worked example with both segments published. -/
def queued : State :=
  push segB (push segA pooled)

/-- The worked example after its first tick: segment A bound, one tick left. -/
def bound : State :=
  queued.segmentTick segA

/-- The worked example after its second tick: segment A retired, X decided. -/
def retired : State :=
  bound.segmentTick segA

/-- The worked example after its third tick: segment B retired, the ring empty, X and Y decided. -/
def drained : State :=
  { retired.segmentTick segB with lines := ⟨0, 2, false, true, true⟩ }

/-- A segment that names no pool entry, published alone. -/
def badSeg : Segment := ⟨1, 1000, 9, 0, false, 0⟩

/-- The reset state with that segment published and the timer running. -/
def bad : State :=
  { push badSeg State.reset with timer := { State.reset.timer with run := true } }

/-- The faulted engine. -/
def faulted : State :=
  bad.segmentTick badSeg

/-- The reset state with one host transaction pending. -/
def withTxn (t : HostTxn) : State :=
  { State.reset with inputs := [.host t] }

/-! ## Well-formedness -/

theorem test_pool_index_refused :
    WellFormed (.ldwBlkSec 120) = false ∧ WellFormed (.stwBlkSec 120 0) = false ∧
    WellFormed (.ldwBlkFlg 120) = false ∧ WellFormed (.stwBlkFlg 127 0) = false ∧
    WellFormed (.ldwBlkSteps0 120) = false ∧ WellFormed (.stwBlkSteps0 127 0) = false ∧
    WellFormed (.ldwBlkSteps1 120) = false ∧ WellFormed (.stwBlkSteps1 127 0) = false ∧
    WellFormed (.ldwBlkSteps2 120) = false ∧ WellFormed (.stwBlkSteps2 127 0) = false ∧
    WellFormed (.ldwBlkSteps3 120) = false ∧ WellFormed (.stwBlkSteps3 127 0) = false ∧
    WellFormed (.ldwBlkSteps4 120) = false ∧ WellFormed (.stwBlkSteps4 127 0) = false ∧
    WellFormed (.ldwBlkSteps5 120) = false ∧ WellFormed (.stwBlkSteps5 127 0) = false := by
  decide

theorem test_pool_index_accepted :
    WellFormed (.ldwBlkSec 119) = true ∧ WellFormed (.stwBlkSteps5 119 0) = true ∧
    WellFormed (.ldwBlkFlg 0) = true := by
  decide

/-! ## Decoding: words written out from 30_encoding R100, R104, R105 and 20_memory R76 -/

/-- 30_encoding section 8: `n=2, cpt=2000, blk=1, amass=1, pwm=100`, field by field from bit 63 down. -/
theorem test_decode_segment :
    decodeTableWord 64 0b0000000001100100000000010000000100000111110100000000000000000010 =
      some (.seg ⟨2, 2000, 1, 1, false, 100⟩) := by
  decide

/-- Every field at its largest value, and the reserved bits 47..45 dropped. -/
theorem test_decode_segment_full :
    decodeTableWord 64 0xFFFFFFFFFFFFFFFF = some (.seg ⟨65535, 65535, 255, 15, true, 65535⟩) ∧
    decodeTableWord 64 0x0000E00000000000 = some (.seg ⟨0, 0, 0, 0, false, 0⟩) := by
  decide

theorem test_decode_commands :
    decodeTableWord 32 0x00000001 = some .init ∧ decodeTableWord 32 0x00000002 = some .wake ∧
    decodeTableWord 32 0x00000003 = some (.disable false) ∧ decodeTableWord 32 0x00000103 = some (.disable true) ∧
    decodeTableWord 32 0x00000004 = some .reset ∧ decodeTableWord 32 0x00000005 = some .genmask ∧
    decodeTableWord 32 0x00000006 = some .publish := by
  decide

/-- 95_test_vectors V21. -/
theorem test_decode_illegal_commands :
    decodeTableWord 32 0x00000007 = none ∧ decodeTableWord 32 0x00000102 = none ∧
    decodeTableWord 32 0x00000203 = none ∧ decodeTableWord 32 0x00000000 = none := by
  decide

/-- Reads of the scalar registers, `we = 0` and the address of 20_memory R76. -/
theorem test_decode_scalar_reads :
    decodeTableWord 16 0x0004 = some .ldwStatus ∧ decodeTableWord 16 0x0008 = some .ldwFlags ∧
    decodeTableWord 16 0x000C = some .ldwHead ∧ decodeTableWord 16 0x0010 = some .ldwTail ∧
    decodeTableWord 16 0x0014 = some .ldwSetStepInv ∧ decodeTableWord 16 0x0018 = some .ldwSetDirInv ∧
    decodeTableWord 16 0x001C = some .ldwSetFlags ∧ decodeTableWord 16 0x0020 = some .ldwSetIdleLock ∧
    decodeTableWord 16 0x0024 = some .ldwSysctl ∧ decodeTableWord 16 0x0028 = some .ldwSegw0 ∧
    decodeTableWord 16 0x002C = some .ldwSegw1 ∧ decodeTableWord 16 0x0030 = some .ldwStepInv ∧
    decodeTableWord 16 0x0034 = some .ldwDirInv ∧ decodeTableWord 16 0x0038 = some .ldwPins ∧
    decodeTableWord 16 0x003C = some .ldwSpindle ∧ decodeTableWord 16 0x0060 = some .ldwTimArr ∧
    decodeTableWord 16 0x0064 = some .ldwTimCcr ∧ decodeTableWord 16 0x0068 = some .ldwTimCnt := by
  decide

/-- Writes of the scalar registers, `we = 1`, with the write data above the 13 bits. -/
theorem test_decode_scalar_writes :
    decodeTableWord 48 0x000000061000 = some (.stwCmd 6) ∧ decodeTableWord 48 0x000000051008 = some (.stwFlags 5) ∧
    decodeTableWord 48 0x000000051014 = some (.stwSetStepInv 5) ∧
    decodeTableWord 48 0x000000051018 = some (.stwSetDirInv 5) ∧
    decodeTableWord 48 0x00000003101C = some (.stwSetFlags 3) ∧
    decodeTableWord 48 0x000000191020 = some (.stwSetIdleLock 25) ∧
    decodeTableWord 48 0x000007031024 = some (.stwSysctl 0x703) ∧
    decodeTableWord 48 0x07D000021028 = some (.stwSegw0 0x07D00002) ∧
    decodeTableWord 48 0x00640101102C = some (.stwSegw1 0x00640101) := by
  decide

/-- `POS[i]` at `0x040 + 4 * i`. -/
theorem test_decode_positions :
    decodeTableWord 13 0b0000001000000 = some (.ldwPos 0) ∧ decodeTableWord 13 0b0000001000100 = some (.ldwPos 1) ∧
    decodeTableWord 13 0b0000001010100 = some (.ldwPos 5) ∧ decodeTableWord 13 0b1000001000000 = none := by
  decide

/-- Pool entry 3 lies at `0x100 + 0x20 * 3 = 0x160`; its words in order. -/
theorem test_decode_pool_reads :
    decodeTableWord 16 0x0160 = some (.ldwBlkSec 3) ∧ decodeTableWord 16 0x0164 = some (.ldwBlkFlg 3) ∧
    decodeTableWord 16 0x0168 = some (.ldwBlkSteps0 3) ∧ decodeTableWord 16 0x016C = some (.ldwBlkSteps1 3) ∧
    decodeTableWord 16 0x0170 = some (.ldwBlkSteps2 3) ∧ decodeTableWord 16 0x0174 = some (.ldwBlkSteps3 3) ∧
    decodeTableWord 16 0x0178 = some (.ldwBlkSteps4 3) ∧ decodeTableWord 16 0x017C = some (.ldwBlkSteps5 3) := by
  decide

theorem test_decode_pool_writes :
    decodeTableWord 48 0xDEADBEEF1160 = some (.stwBlkSec 3 0xDEADBEEF) ∧
    decodeTableWord 48 0x000001071164 = some (.stwBlkFlg 3 0x107) ∧
    decodeTableWord 48 0x000000101128 = some (.stwBlkSteps0 1 16) ∧
    decodeTableWord 48 0x00000010112C = some (.stwBlkSteps1 1 16) ∧
    decodeTableWord 48 0x000000101130 = some (.stwBlkSteps2 1 16) ∧
    decodeTableWord 48 0x000000101134 = some (.stwBlkSteps3 1 16) ∧
    decodeTableWord 48 0x000000101138 = some (.stwBlkSteps4 1 16) ∧
    decodeTableWord 48 0x00000010113C = some (.stwBlkSteps5 1 16) := by
  decide

/-- Misaligned, write-only, read-only, unmapped; a zero-width row has no word. -/
theorem test_decode_refused :
    decodeTableWord 16 0x0002 = none ∧ decodeTableWord 16 0x0000 = none ∧ decodeTableWord 16 0x1004 = none ∧
    decodeTableWord 16 0x006C = none ∧ decodeTableWord 0 0 = none := by
  decide

/-- The encoder, on words of the spec. -/
theorem test_encode :
    encode (.seg segA) = some (.seg64 0x0064010107D00002) ∧ encode (.disable true) = some (.cmd32 0x00000103) ∧
    encode (.stwBlkSec 3 7) = some (.mmio true 0x160 7) ∧ encode (.ldwPos 1) = some (.mmio false 0x044 0) ∧
    encode .tick = none := by
  decide

/-! ## Reset: 95_test_vectors V1, V2 -/

theorem test_reset_reads :
    readBack .ldwStatus State.reset = 1 ∧ readBack .ldwFlags State.reset = 0 ∧ readBack .ldwHead State.reset = 0 ∧
    readBack .ldwTail State.reset = 0 ∧ readBack .ldwPins State.reset = 0x10000 ∧
    readBack .ldwTimArr State.reset = 400 ∧ readBack .ldwTimCcr State.reset = 300 ∧
    readBack .ldwTimCnt State.reset = 0 ∧ readBack .ldwSpindle State.reset = 0 ∧
    readBack (.ldwPos 2) State.reset = 0 ∧ readBack .ldwStepInv State.reset = 0 ∧
    readBack .ldwDirInv State.reset = 0 ∧ readBack .ldwSysctl State.reset = 0 := by
  decide

theorem test_init :
    readBack .ldwPins (run1 .init State.reset) = 0x30000 ∧ readBack .ldwStatus (run1 .init State.reset) = 0x11 := by
  decide

/-! ## Host accesses: 95_test_vectors V10 to V19 -/

theorem test_set_step_inv :
    readBack .ldwSetStepInv (run1 (.stwSetStepInv 0xFFFFFFFF) State.reset) = 7 ∧
    readBack .ldwStepInv (run1 (.stwSetStepInv 5) State.reset) = 0 := by
  decide

theorem test_set_dir_inv_and_genmask :
    readBack .ldwDirInv (run1 (.stwSetDirInv 5) State.reset) = 0 ∧
    readBack .ldwDirInv (run1 .genmask (run1 (.stwSetDirInv 5) State.reset)) = 5 ∧
    readBack .ldwSetDirInv (run1 (.stwSetDirInv 5) State.reset) = 5 := by
  decide

theorem test_set_flags : readBack .ldwSetFlags (run1 (.stwSetFlags 0xFFFFFFFF) State.reset) = 3 := by
  decide

theorem test_set_idle_lock : readBack .ldwSetIdleLock (run1 (.stwSetIdleLock 0x1234) State.reset) = 0x34 := by
  decide

theorem test_sysctl : readBack .ldwSysctl (run1 (.stwSysctl 0xFFFFFFFF) State.reset) = 0x703 := by
  decide

theorem test_window :
    readBack .ldwSegw0 (run1 (.stwSegw0 0xFFFFFFFF) State.reset) = 0xFFFFFFFF ∧
    readBack .ldwSegw1 (run1 (.stwSegw1 0xFFFFFFFF) State.reset) = 0xFFFF1FFF := by
  decide

theorem test_pool_words :
    readBack (.ldwBlkFlg 0) (run1 (.stwBlkFlg 0 0xFFFFFFFF) State.reset) = 0x107 ∧
    readBack (.ldwBlkSec 3) (run1 (.stwBlkSec 3 0xDEADBEEF) State.reset) = 0xDEADBEEF ∧
    readBack (.ldwBlkSteps0 8) (run1 (.stwBlkSteps0 8 17) State.reset) = 17 ∧
    readBack (.ldwBlkSteps1 8) (run1 (.stwBlkSteps1 8 18) State.reset) = 18 ∧
    readBack (.ldwBlkSteps2 8) (run1 (.stwBlkSteps2 8 19) State.reset) = 19 := by
  decide

/-- `N_AXIS = 3` and `N_BLK = 9`: V18e, V18f, V18g. -/
theorem test_absent_registers :
    readBack .ldwFlags (run1 (.ldwPos 3) State.reset) = 8 ∧
    readBack .ldwFlags (run1 (.ldwBlkSteps3 0) State.reset) = 8 ∧
    readBack .ldwFlags (run1 (.ldwBlkSteps4 0) State.reset) = 8 ∧
    readBack .ldwFlags (run1 (.ldwBlkSteps5 0) State.reset) = 8 ∧
    readBack .ldwFlags (run1 (.stwBlkSteps3 0 1) State.reset) = 8 ∧
    readBack .ldwFlags (run1 (.stwBlkSteps4 0 1) State.reset) = 8 ∧
    readBack .ldwFlags (run1 (.stwBlkSteps5 0 1) State.reset) = 8 ∧
    readBack .ldwFlags (run1 (.ldwBlkSec 9) State.reset) = 8 := by
  decide

/-- Refused transactions, V18a, V18b, V18c, V18d, V18h, and a byte access (20_memory R73). -/
theorem test_refused_transactions :
    (step1 (withTxn ⟨false, 0x002, 0, .word⟩)).flags.word = 8 ∧
    (step1 (withTxn ⟨false, 0x000, 0, .word⟩)).flags.word = 8 ∧
    (step1 (withTxn ⟨true, 0x004, 1, .word⟩)).flags.word = 8 ∧
    (step1 (withTxn ⟨true, 0x040, 5, .word⟩)).flags.word = 8 ∧
    (step1 (withTxn ⟨false, 0x06C, 0, .word⟩)).flags.word = 8 ∧
    (step1 (withTxn ⟨false, 0x004, 0, .byte⟩)).flags.word = 8 := by
  decide

/-- V19. -/
theorem test_flags_clear :
    (run1 (.stwFlags 5) { State.reset with flags := ⟨true, true, true, true, false⟩ }).flags.word = 0xA ∧
    (run1 (.stwFlags 0xFFFFFFFF) { State.reset with flags := ⟨false, false, true, false, true⟩ }).flags.word =
      0x100 := by
  decide

/-! ## Commands: 95_test_vectors V20 to V22, 40_host_commands R131, R133, R135 -/

theorem test_publish :
    (run1 .publish { State.reset with head := 9, tail := 3 }).head = 0 ∧
    (run1 .publish { State.reset with head := 2, tail := 3 }).head = 2 ∧
    (run1 .publish { State.reset with head := 2, tail := 3 }).flags.word = 2 := by
  decide

theorem test_illegal_command :
    (run1 (.stwCmd 0x00000203) State.reset).flags.word = 4 ∧
    (run1 (.stwCmd 0x00000103) State.reset).flags.word = 0 := by
  decide

theorem test_wake :
    (run1 .wake State.reset).lines.en = false ∧ (run1 .wake State.reset).lines.drvEnabled = true ∧
    (run1 .wake State.reset).timer.run = true ∧ (run1 .wake State.reset).timer.tcnt = 0 := by
  decide

/-- P5: a fault refuses WAKE with `ERR_CMD`. -/
theorem test_wake_refused : (run1 .wake faulted).flags.word = 0x104 ∧ (run1 .wake faulted).timer.run = false := by
  decide

/-- V22, rows 1, 2, 3, 4: the enable line and `drv_enabled`. -/
theorem test_disable :
    (run1 (.disable false) { State.reset with settings := ⟨0, 0, false, false, 25⟩ }).lines.en = true ∧
    (run1 (.disable false) { State.reset with settings := ⟨0, 0, false, false, 255⟩ }).lines.drvEnabled = true ∧
    (run1 (.disable true) { State.reset with settings := ⟨0, 0, false, false, 255⟩ }).lines.en = true ∧
    (run1 (.disable false) { State.reset with
      settings := ⟨0, 0, false, false, 25⟩, sysctl := ⟨true, false, 0⟩ }).lines.drvEnabled = true := by
  decide

/-- 40_host_commands R133: `SET_STEP_INV = 0b001`, all lines idle. -/
theorem test_reset_command :
    let s : State := { State.reset with
      settings := ⟨1, 0, false, false, 0⟩, stepInv := 1, lines := ⟨1, 0, true, false, true⟩, tail := 4, head := 5 }
    (run1 .reset s).stepInv = 1 ∧ (run1 .reset s).lines.step = 0 ∧ (run1 .reset s).tail = 0 ∧
    eventsOf (run1 .reset s).trace = [.stepRise 0] := by
  decide

/-! ## The engine: the worked example of 41_see_tick section 8 -/

/-- Tick 1. -/
theorem test_tick_loads :
    bound.timer.arr = 2000 ∧ bound.timer.ccr = 1500 ∧ bound.exec.steps = ⟨8, 4, 0, 0, 0, 0⟩ ∧
    bound.exec.counter = ⟨16, 12, 8, 0, 0, 0⟩ ∧ bound.exec.stepCount = 1 ∧ bound.exec.segValid = true ∧
    eventsOf bound.trace = [.dirSet 1 true, .spindleWrite 100] := by
  decide

/-- Tick 2. -/
theorem test_tick_retires :
    retired.exec.counter = ⟨8, 16, 8, 0, 0, 0⟩ ∧ retired.exec.stepOutbits = 1 ∧
    retired.sysPosition = ⟨1, 0, 0, 0, 0, 0⟩ ∧ retired.tail = 1 ∧ retired.exec.segValid = false := by
  decide

/-- Tick 4: the ring is empty. -/
theorem test_tick_empty :
    (run1 .tick drained).sysPosition = ⟨2, -1, 0, 0, 0, 0⟩ ∧ (run1 .tick drained).flags.word = 1 ∧
    (run1 .tick drained).timer.run = false ∧
    eventsOf (run1 .tick { drained with trace := [] }).trace =
      [.stepRise 0, .stepRise 1, .stepFall 0, .stepFall 1, .enSet true, .cycleStop] := by
  decide

/-- 60_exceptions R276: the slot is kept, the fault is raised. -/
theorem test_tick_faults :
    faulted.flags.word = 0x100 ∧ faulted.tail = 0 ∧ faulted.exec.segValid = false ∧ faulted.timer.run = false ∧
    faulted.timer.arr = 400 := by
  decide

/-- 42_pulse_reset_and_timer R210. -/
theorem test_preset :
    let s : State := { State.reset with stepInv := 1, lines := ⟨2, 0, true, false, true⟩ }
    (run1 .preset s).lines.step = 1 ∧ eventsOf (run1 .preset s).trace = [.stepFall 0, .stepFall 1] := by
  decide

/-- The timer (42_pulse_reset_and_timer R213): count, compare, period end. -/
theorem test_timer :
    (step1 { queued with timer := ⟨5, 400, 300, true⟩ }).timer.tcnt = 6 ∧
    (step1 { queued with timer := ⟨299, 400, 300, true⟩, lines := ⟨1, 0, true, false, true⟩ }).lines.step = 0 ∧
    (step1 { queued with timer := ⟨399, 400, 300, true⟩ }).exec.segValid = true := by
  decide

/-- A word placed for the next step is executed by it: a segment, a command, a register access. -/
theorem test_with_fetch_word :
    (step1 (State.reset.withFetchWord 64 0x0064010107D00002)).timer.arr = 2000 ∧
    (step1 (State.reset.withFetchWord 32 0x00000001)).lines.pinsDriven = true ∧
    (step1 (State.reset.withFetchWord 16 0x0010)).inputs = [] := by
  decide

/-- Power-on reset. -/
theorem test_power_on :
    (step1 { drained with inputs := [.powerOn] }).sysPosition = AxisVec.fill 0 ∧
    (step1 { drained with inputs := [.powerOn] }).epoch = 1 := by
  decide

/-! ## Witnesses: a concrete state and operands that meet the hypotheses of each statement -/

/-- A legal configuration: `StatusReadsItsView`, `InvertSettingsReadBack`, `SystemSettingsReadBack`,
`InitConfiguresTimerAndPins`, `ResetZeroesTheStepper`, `PowerOnMeetsTheInvariants`. -/
theorem witness_legal : State.reset.cfg.legal = true ∧ Config.reference.legal = true := by
  decide

/-- The ends of the legal ranges (00_scope R5 to R8). -/
theorem witness_legal_ends :
    ({ Config.reference with nAxis := 1, nSeg := 3, maxAmassLevel := 1, fTimerStepper := 240000 }).legal = true ∧
    ({ Config.reference with nAxis := 6, nSeg := 64, maxAmassLevel := 15, maxStepRateHz := some 367 }).legal = true := by
  decide

theorem witness_HeadAndTailRegisters :
    let s := withTxn ⟨true, 0x00C, 7, .word⟩
    let t := withTxn ⟨true, 0x010, 7, .word⟩
    s.cfg.legal = true ∧ s.inputs = .host ⟨true, 0x00C, 7, .word⟩ :: [] ∧
    t.cfg.legal = true ∧ t.inputs = .host ⟨true, 0x010, 7, .word⟩ :: [] := by
  decide

/-- Each clause at its boundary: axis 2 exists, axis 3 does not. -/
theorem witness_PositionRegisterReads :
    State.reset.cfg.legal = true ∧ (2 : BitVec 3).toNat < State.reset.cfg.nAxis ∧
    (2 : Axis).val = (2 : BitVec 3).toNat ∧ State.reset.cfg.nAxis ≤ (3 : BitVec 3).toNat := by
  decide

/-- A window write beside a live segment. -/
theorem witness_LiveSegmentsCannotBeAltered :
    queued.cfg.legal = true ∧ queued.RingInv ∧ exec (.stwSegw0 7) queued = .next (queued.setSegW0 7) ∧
    Instr.stwSegw0 7 ≠ .reset ∧ Instr.stwSegw0 7 ≠ .stwCmd 4 ∧ queued.isLive 0 = true ∧ queued.isLive 1 = true ∧
    queued.isLive 2 = false := by
  refine ⟨by decide, by decide, rfl, by decide, by decide, by decide, by decide, by decide⟩

/-- The last entry and the last word that exist; `SEC` and `FLG`. -/
theorem witness_PoolWordsReadBack :
    State.reset.cfg.legal = true ∧ (8 : BitVec 7).toNat < State.reset.cfg.nBlk ∧
    (4 : Fin 8).val < 2 + State.reset.cfg.nAxis ∧ (1 : Fin 8).val < 2 + State.reset.cfg.nAxis ∧
    (0 : Fin 8).val < 2 + State.reset.cfg.nAxis := by
  decide

/-- The first entry and the first word that do not. -/
theorem witness_AbsentPoolWordsRefused :
    State.reset.cfg.nBlk ≤ (9 : BitVec 7).toNat ∧ 2 + State.reset.cfg.nAxis ≤ (5 : Fin 8).val := by
  decide

/-- The first position register that does not exist, read and written. -/
theorem witness_IllegalAccessRefused :
    let x : HostTxn := ⟨false, 0x04C, 0, .word⟩
    let y : HostTxn := ⟨true, 0x040, 0, .word⟩
    (withTxn x).cfg.legal = true ∧ (withTxn x).inputs = .host x :: [] ∧ ¬ (withTxn x).cfg.Accessible x ∧
    (withTxn y).cfg.legal = true ∧ (withTxn y).inputs = .host y :: [] ∧ ¬ (withTxn y).cfg.Accessible y := by
  decide

/-- The last position register and the last pool word that exist. -/
theorem witness_LegalAccessNeverRaisesErrBus :
    let x : HostTxn := ⟨false, 0x048, 0, .word⟩
    let y : HostTxn := ⟨true, 0x210, 5, .word⟩
    (withTxn x).cfg.legal = true ∧ (withTxn x).inputs = .host x :: [] ∧ (withTxn x).cfg.Accessible x ∧
    (withTxn y).cfg.legal = true ∧ (withTxn y).inputs = .host y :: [] ∧ (withTxn y).cfg.Accessible y := by
  decide

/-- Both clauses. -/
theorem witness_WakeEnablesAndStarts :
    faulted.flags.faultBadidx = true ∧ State.reset.flags.faultBadidx = false := by
  decide

/-- Both clauses, at the wrap: nine live slots of ten, and eight. -/
theorem witness_PublishAdvancesHead :
    let s : State := { State.reset with head := 9 }
    let t : State := { State.reset with head := 9, tail := 1 }
    s.cfg.legal = true ∧ (s.head.toNat + 1) % s.cfg.nSeg = s.tail.toNat ∧
    t.cfg.legal = true ∧ (t.head.toNat + 1) % t.cfg.nSeg ≠ t.tail.toNat := by
  decide

/-- Words next to the legal ones. -/
theorem witness_CommandWriteExecutesOrRefuses :
    (0x00000007 : Word).toNat ∉ legalCommandWords ∧ (0x00000203 : Word).toNat ∉ legalCommandWords ∧
    (0x00000000 : Word).toNat ∉ legalCommandWords := by
  decide

theorem witness_DisableThenWakeResumes :
    bound.flags.faultBadidx = false ∧ exec (.disable true) bound = .next (disableEffect true bound) ∧
    exec .wake (disableEffect true bound) = .next (wakeEffect (disableEffect true bound)) :=
  ⟨by decide, rfl, rfl⟩

/-- Axis Y at equality does not step, axis X does; one tick left. -/
theorem witness_BoundSegmentTick :
    bound.cfg.legal = true ∧ bound.exec.segValid = true ∧ bound.exec.stepCount = 1 ∧
    (bound.blkSec bound.exec.blockIndex.toNat).toNat < (bound.exec.counter.get 0 + bound.exec.steps.get 0).toNat ∧
    (bound.exec.counter.get 1 + bound.exec.steps.get 1).toNat =
      (bound.blkSec bound.exec.blockIndex.toNat).toNat := by
  decide

/-- More than one tick left, `n_step = 0` among them. -/
theorem witness_BoundSegmentTick_more :
    let s : State := { bound with exec := { bound.exec with stepCount := 0 } }
    s.cfg.legal = true ∧ s.exec.segValid = true ∧ s.exec.stepCount ≠ 1 := by
  decide

/-- A new block with two ticks to run, and the bound block again with one. -/
theorem witness_LoadingSegmentTick :
    queued.cfg.legal = true ∧ queued.exec.segValid = false ∧ segA.stBlockIndex.toNat < queued.cfg.nBlk ∧
    segA.nStep ≠ 1 ∧ queued.exec.blockValid = false ∧
    retired.cfg.legal = true ∧ retired.exec.segValid = false ∧ segB.stBlockIndex.toNat < retired.cfg.nBlk ∧
    segB.nStep = 1 ∧ retired.exec.blockValid = true ∧ segB.stBlockIndex = retired.exec.blockIndex := by
  decide

/-- The last index that names an entry. -/
theorem witness_LoadingSegmentTick_last :
    let f : Segment := ⟨1, 1, 8, 15, true, 0⟩
    State.reset.cfg.legal = true ∧ State.reset.exec.segValid = false ∧
    f.stBlockIndex.toNat < State.reset.cfg.nBlk := by
  decide

/-- The first index that names none. -/
theorem witness_BadIndexTakesTheFault :
    bad.exec.segValid = false ∧ bad.cfg.nBlk ≤ badSeg.stBlockIndex.toNat ∧
    badSeg.stBlockIndex.toNat = bad.cfg.nBlk := by
  decide

/-- Nothing bound and an empty ring; after a block that was not rate-adjusted, and after one that was. -/
theorem witness_EmptyRingTickShutsDown :
    let adjusted := drained.setPoolWord 1 1 0x102
    drained.exec.segValid = false ∧ drained.head = drained.tail ∧
    adjusted.exec.segValid = false ∧ adjusted.head = adjusted.tail ∧ adjusted.exec.blockValid = true ∧
    adjusted.blkAdjusted adjusted.exec.blockIndex.toNat = true := by
  decide

theorem witness_TickExecutesTheSegmentAtTail :
    bound.exec.segValid = true ∧ queued.head ≠ queued.tail ∧ queued.exec.segValid = false := by
  decide

/-- `TickRaisesTheDecidedSteps`, `ProbeStrobeOncePerTick`: a tick on each path of the handler. -/
theorem witness_tick :
    exec .tick bound = .next bound.tickHandler ∧ exec .tick queued = .next queued.tickHandler ∧
    exec .tick bad = .next bad.tickHandler ∧ exec .tick drained = .next drained.tickHandler :=
  ⟨rfl, rfl, rfl, rfl⟩

/-- `AccumulatorStaysInRange`, `TracerRunBalances`: both ends of the range of the accumulator. -/
theorem witness_accumulator :
    (0x7FFFFFFF : Word).toNat ≤ (0x7FFFFFFF : Word).toNat ∧ (0x7FFFFFFF : Word).toNat < 2 ^ 31 ∧
    1 ≤ (1 : Word).toNat ∧ (1 : Word).toNat ≤ (0x7FFFFFFF : Word).toNat ∧
    1 ≤ (0x7FFFFFFF : Word).toNat := by
  decide

/-- Up from the largest position, and down from the least. -/
theorem witness_PositionWrapsWithoutFault :
    let up : State := { bound with sysPosition := AxisVec.fill 0x7FFFFFFF }
    let down : State := { up.setPoolWord 1 1 1 with sysPosition := AxisVec.fill 0x80000000 }
    (up.cfg.legal = true ∧ up.exec.segValid = true ∧ (0 : Axis).val < up.cfg.nAxis ∧ segA.backlashMotion = false ∧
      (up.blkSec up.exec.blockIndex.toNat).toNat < (up.exec.counter.get 0 + up.exec.steps.get 0).toNat ∧
      (up.blkFlg up.exec.blockIndex.toNat).getLsbD 0 = false ∧ (up.sysPosition.get 0).toInt = 2 ^ 31 - 1) ∧
    (down.cfg.legal = true ∧ down.exec.segValid = true ∧ (0 : Axis).val < down.cfg.nAxis ∧
      (down.blkSec down.exec.blockIndex.toNat).toNat < (down.exec.counter.get 0 + down.exec.steps.get 0).toNat ∧
      (down.blkFlg down.exec.blockIndex.toNat).getLsbD 0 = true ∧ (down.sysPosition.get 0).toInt = -2 ^ 31) := by
  decide

theorem witness_SegmentRunsItsTicks :
    queued.cfg.legal = true ∧ queued.exec.segValid = false ∧ queued.head ≠ queued.tail ∧
    segA = queued.segment queued.tail ∧ segA.stBlockIndex.toNat < queued.cfg.nBlk ∧ segA.ticks = 2 := by
  decide

/-- The planner's counts of the worked example. -/
def demoCounts (i : Axis) : Nat :=
  match i.val with
  | 0 => 2
  | 1 => 1
  | _ => 0

/-- The worked example is well formed, and its two segments of levels 1 and 0 deliver its two events. -/
theorem witness_StepConservation :
    (queued.cfg.legal = true ∧ queued.RingInv ∧ queued.exec.segValid = false) ∧ queued.Queued [segA, segB] ∧
    (∀ f ∈ [segA, segB], queued.cfg.WellFormedSegment f ∧ f.stBlockIndex = 1 ∧ f.backlashMotion = false) ∧
    queued.WellFormedBlock (1 : BitVec 8).toNat 2 demoCounts ∧ ([segA, segB].map Segment.delivers).sum = 2 ∧
    (queued.exec.blockValid = false ∨ queued.exec.blockIndex ≠ 1) := by
  refine ⟨by decide, ⟨by decide, by decide⟩, ?_, ⟨by decide, by decide, by decide, by decide, by decide⟩, by decide,
    .inl (by decide)⟩
  intro f hf
  simp only [List.mem_cons, List.not_mem_nil, or_false] at hf
  rcases hf with rfl | rfl
  · exact ⟨⟨by decide, by decide, by decide, by decide⟩, by decide, by decide⟩
  · exact ⟨⟨by decide, by decide, by decide, by decide⟩, by decide, by decide⟩

theorem witness_PeriodIsOnePresetThenOneTick :
    let s : State := { queued with timer := ⟨0, 400, 300, true⟩ }
    s.cfg.legal = true ∧ s.TimerInv ∧ s.timer.run = true ∧ s.timer.tcnt = 0 ∧ s.inputs = [] := by
  decide

/-- A running timer: the clock before the compare, the clock before the period end, one between; with the clock as an
input too. -/
theorem witness_TimerRefinesPhaseAbstraction :
    let at_ (k : Half) : State := { queued with timer := ⟨k, 400, 300, true⟩ }
    let clocked : State := { at_ 399 with inputs := [.clk] }
    ((at_ 299).cfg.legal = true ∧ (at_ 299).TimerInv ∧ (at_ 299).timer.run = true ∧ (at_ 299).inputs = []) ∧
    ((at_ 399).TimerInv ∧ (at_ 399).phase = .afterCmp ∧ (at_ 299).phase = .beforeCmp ∧ (at_ 300).TimerInv) ∧
    clocked.cfg.legal = true ∧ clocked.TimerInv ∧ clocked.timer.run = true ∧ clocked.inputs = .clk :: [] := by
  decide

/-- A stopped timer, a host transaction that starts it, one that does not, a power-on, and the clauses by
instruction. -/
theorem witness_TimerRefinesPhaseAbstraction_host :
    let wake := withTxn ⟨true, 0x000, 0x00000002, .word⟩
    let other := withTxn ⟨true, 0x000, 0x00000006, .word⟩
    let power : State := { State.reset with inputs := [.powerOn] }
    (State.reset.TimerInv ∧ State.reset.timer.run = false ∧ State.reset.inputs = [] ∧
      State.reset.flags.faultBadidx = false) ∧
    (wake.cfg.legal = true ∧ wake.TimerInv ∧ wake.inputs = .host ⟨true, 0x000, 0x00000002, .word⟩ :: [] ∧
      wake.timer.run = false ∧ wake.flags.faultBadidx = false) ∧
    (other.cfg.legal = true ∧ other.TimerInv ∧ other.inputs = .host ⟨true, 0x000, 0x00000006, .word⟩ :: []) ∧
    (power.cfg.legal = true ∧ power.TimerInv ∧ power.inputs = .powerOn :: []) ∧
    Instr.preset ≠ .tick ∧ (∀ f, Instr.preset ≠ .seg f) ∧ Instr.preset ≠ .init ∧ Instr.preset ≠ .stwCmd 1 ∧
    Instr.preset ≠ .reset ∧ Instr.preset ≠ .stwCmd 4 ∧
    ¬ ((Instr.preset = .wake ∨ Instr.preset = .stwCmd 2) ∧ State.reset.timer.run = false ∧
        State.reset.flags.faultBadidx = false) := by
  refine ⟨by decide, by decide, by decide, by decide, by decide, (fun _ h => by cases h), by decide, by decide, by decide,
    by decide, by decide⟩

/-- The least reload. -/
theorem witness_CompareLiesInsideThePeriod : 4 ≤ (4 : Half).toNat := by
  decide

/-- `OnlyTheEngineMovesPositions`, `ExecStateIsPrivate`, `LinesHaveTheirWriters`, `TraceOnlyGrows`: an instruction
outside every exception of theirs, and a tick on the path that leaves the enable line alone. -/
theorem witness_writers :
    exec (.stwSegw0 7) bound = .next (bound.setSegW0 7) ∧ Instr.stwSegw0 7 ≠ .tick ∧
    (∀ f, Instr.stwSegw0 7 ≠ .seg f) ∧ Instr.stwSegw0 7 ≠ .reset ∧ Instr.stwSegw0 7 ≠ .stwCmd 4 ∧
    (∀ o, Instr.stwSegw0 7 ≠ .disable o) ∧
    ¬ (Instr.tick = .tick ∧ bound.exec.segValid = false ∧ bound.head = bound.tail) := by
  refine ⟨rfl, by decide, (fun _ h => by cases h), by decide, by decide, (fun _ h => by cases h), by decide⟩

/-- `ConfigurationIsConstant` and the premises of the `StepKeeps` statements and of `RingTransitions`: a state that
meets every invariant and has a next state. -/
theorem witness_invariants :
    (bound.RingInv ∧ bound.BlockInv ∧ bound.TimerInv ∧ bound.MaskInv) ∧ bound.MemoryInv ∧ bound.FaultInv ∧
    step bound = .next { bound with time := bound.time + 1 } := by
  refine ⟨by decide, ⟨by decide, by decide, by decide, by decide⟩, by decide, rfl⟩

/-- The fault invariant on a faulted engine. -/
theorem witness_faulted :
    faulted.flags.faultBadidx = true ∧ faulted.timer.run = false ∧ faulted.exec.segValid = false ∧
    faulted.head ≠ faulted.tail ∧ faulted.cfg.nBlk ≤ (faulted.segment faulted.tail).stBlockIndex.toNat := by
  decide

/-- A set flag, and a step. -/
theorem witness_FlagsAreSticky :
    step faulted = .next { faulted with time := faulted.time + 1 } ∧ faulted.flags.get .faultBadidx = true :=
  ⟨rfl, by decide⟩

/-- Each clause: `N_SEG = 2`, `MAX_AMASS_LEVEL = 0`, `STEP_TIMER_MIN` of 3 and of 65536, by either formula. -/
theorem witness_BadConfigurationRejected :
    let at_ (c : Config) : State := { State.reset with cfg := c }
    (at_ { Config.reference with nSeg := 2 }).cfg.nSeg < 3 ∧
    (at_ { Config.reference with maxAmassLevel := 0 }).cfg.maxAmassLevel < 1 ∧
    (at_ { Config.reference with fTimerStepper := 239999 }).cfg.fTimerStepper / 60000 < 4 ∧
    65535 < (at_ { Config.reference with fTimerStepper := 3932160000 }).cfg.fTimerStepper / 60000 ∧
    (at_ { Config.reference with maxStepRateHz := some 6000001 }).cfg.fTimerStepper / 6000001 < 4 ∧
    65535 < (at_ { Config.reference with maxStepRateHz := some 366 }).cfg.fTimerStepper / 366 ∧
    Config.reference.maxStepRateHz = none := by
  decide

/-- Driven pins where axis 1 exists, and a legal configuration with the mirrored pair of an axis 1 that does not. -/
theorem witness_MirroredLinesFollow :
    let one : State := { State.reset with cfg := { Config.reference with nAxis := 1, dualY := true } }
    (initEffect State.reset).lines.pinsDriven = true ∧ 1 < (initEffect State.reset).cfg.nAxis ∧
    one.cfg.legal = true ∧ (initEffect one).lines.pinsDriven = true ∧ (initEffect one).mirrorY ≠ none := by
  refine ⟨by decide, by decide, by decide, by decide, ?_⟩
  exact Option.some_ne_none _

/-- A register access and a command write, each as the first input. -/
theorem witness_StepRunsTheHostInstruction :
    let x : HostTxn := ⟨false, 0x044, 0, .word⟩
    let y : HostTxn := ⟨true, 0x000, 0x00000103, .word⟩
    ((withTxn x).cfg.legal = true ∧ (withTxn x).inputs = .host x :: [] ∧ x.width = .word) ∧
    (withTxn y).inputs = .host y :: [] ∧ y.width = .word ∧ y.we = true ∧ y.addr = 0x000 ∧
    (∀ d, Instr.ldwPos 1 ≠ .stwCmd d) := by
  refine ⟨by decide, by decide, by decide, by decide, by decide, fun _ h => by cases h⟩

theorem witness_StepRunsTheHostInstruction_decodes :
    (decode (.mmio false 0x044 0)).toOption = some (.ldwPos 1) ∧
    (decode (.cmd32 0x00000103)).toOption = some (.disable true) ∧
    (decode (.cmd32 0x00000102)).toOption = none := by
  decide

/-- A step that takes a power-on reset: `PowerOnValues`. -/
theorem witness_PowerOnValues :
    { drained with inputs := [.powerOn] }.cfg.legal = true ∧
    { drained with inputs := [.powerOn] }.inputs = .powerOn :: [] := by
  decide

/-- A stopped timer, the period end with and without a segment, the compare, and a clock between. -/
theorem witness_StepRunsTheTimerEvent :
    let at_ (s : State) (k : Half) : State := { s with timer := ⟨k, 400, 300, true⟩ }
    State.reset.cfg.legal = true ∧ State.reset.timer.run = false ∧ State.reset.inputs = [] ∧
    ((at_ queued 399).timer.tcnt + 1 = (at_ queued 399).timer.arr ∧ (at_ queued 399).head ≠ (at_ queued 399).tail) ∧
    ((at_ drained 399).exec.segValid = false ∧ (at_ drained 399).head = (at_ drained 399).tail) ∧
    ((at_ queued 299).timer.tcnt + 1 = (at_ queued 299).timer.ccr ∧
      (at_ queued 299).timer.tcnt + 1 ≠ (at_ queued 299).timer.arr) ∧
    (at_ queued 5).timer.tcnt + 1 ≠ (at_ queued 5).timer.arr := by
  decide

/-- A well-formed instruction at the end of its operand's range, and its word. -/
theorem witness_DecodeEncodeAgree :
    WellFormed (.stwBlkSteps5 119 7) = true ∧ encode (.stwBlkSteps5 119 7) = some (.mmio true 0xFFC 7) := by
  decide

theorem witness_DecodedWordsReencode :
    (decode (.mmio true 0xFFC 7)).toOption = some (.stwBlkSteps5 119 7) ∧
    (decode (.seg64 0xFFFFFFFFFFFFFFFF)).toOption = some (.seg ⟨65535, 65535, 255, 15, true, 65535⟩) := by
  decide

/-- The ends of the array rows: `POS[0]`, `POS[7]`, `BLK[0]` and `BLK[119]`, first and last word. -/
theorem witness_SpecWordsDecode :
    (0x040 : BitVec 12).toNat = 0x040 + 4 * (0 : BitVec 3).toNat ∧
    (0x05C : BitVec 12).toNat = 0x040 + 4 * (7 : BitVec 3).toNat ∧
    (0x100 : BitVec 12).toNat = 0x100 + 0x20 * (0 : BitVec 7).toNat + 0x00 ∧
    (0x11C : BitVec 12).toNat = 0x100 + 0x20 * (0 : BitVec 7).toNat + 0x1C ∧
    (0xFE0 : BitVec 12).toNat = 0x100 + 0x20 * (119 : BitVec 7).toNat + 0x00 ∧
    (0xFFC : BitVec 12).toNat = 0x100 + 0x20 * (119 : BitVec 7).toNat + 0x1C := by
  decide
end Sys2Proof.Tests
end

section
/-! PROOFS. The host port's refusals, and the family 10_state R53: `HEAD` and `TAIL`. -/

namespace Sys2Proof.Machine

/-! ## Refused transactions -/

/-- A write whose address names a scalar register with no write direction is refused (20_memory R77). -/
theorem decode_write_readOnly {addr : BitVec 12} {row : ScalarRow} (aligned : addr.extractLsb' 0 2 = 0)
    (found : scalarRows.find? (fun r => r.addr == addr) = some row) (noWrite : row.write = none) (d : Word) :
    decode (.mmio true addr d) = .error .readOnly := by
  simp [decode, decodeMmio, aligned, found, noWrite]

/-- A full-width transaction that decodes to no instruction stands for none. -/
theorem hostInstr_of_decode_error {x : HostTxn} {e : DecodeError} (word : x.width = .word)
    (undecoded : decode (.mmio x.we x.addr x.data) = .error e) : hostInstr x = .error e := by
  simp [hostInstr, word, undecoded]

/-- A step whose input is a transaction that stands for no instruction: the bus error (20_memory R73, R77). -/
theorem step_of_hostInstr_error {s : State} {x : HostTxn} {rest : List Input} {e : DecodeError}
    (legal : s.cfg.legal = true) (input : s.inputs = .host x :: rest) (refused : hostInstr x = .error e) :
    step s = .next (({ s with inputs := rest } : State).busError x.we) := by
  rw [step_of_legal legal]
  simp [inputStep, takeInput, hostStep, input, refused]

/-- A refused write sets `ERR_BUS` and changes nothing else. -/
theorem State.busError_write (s : State) :
    s.busError true = { s with flags := { s.flags with errBus := true } } := rfl

/-! ## `HEAD` and `TAIL` (10_state R53) -/

/-- A read of `HEAD` returns the index as a number, so bits 31..8 are 0. -/
theorem exec_ldwHead (s : State) :
    exec .ldwHead s = .next { s with hostResult := BitVec.ofNat 32 s.head.toNat } := by
  rw [BitVec.ofNat_toNat]
  rfl

/-- A read of `TAIL` returns the index as a number, so bits 31..8 are 0. -/
theorem exec_ldwTail (s : State) :
    exec .ldwTail s = .next { s with hostResult := BitVec.ofNat 32 s.tail.toNat } := by
  rw [BitVec.ofNat_toNat]
  rfl

/-- A full-width write of a read-only scalar register is refused with `ERR_BUS`. -/
theorem step_write_readOnly {s : State} {addr : BitVec 12} {row : ScalarRow} {d : Word} {rest : List Input}
    (legal : s.cfg.legal = true) (input : s.inputs = .host ⟨true, addr, d, .word⟩ :: rest)
    (aligned : addr.extractLsb' 0 2 = 0) (found : scalarRows.find? (fun r => r.addr == addr) = some row)
    (noWrite : row.write = none) :
    step s = .next { s with inputs := rest, flags := { s.flags with errBus := true } } := by
  have undecoded := decode_write_readOnly aligned found noWrite d
  rw [step_of_hostInstr_error legal input (hostInstr_of_decode_error rfl undecoded), State.busError_write]

/-- Settles O3: the reads by the meanings of the two instructions, the writes because both registers' rows of the
address map have no write direction. -/
theorem headAndTailRegisters : Obligations.HeadAndTailRegisters := by
  intro s
  refine ⟨exec_ldwHead s, exec_ldwTail s, ?_⟩
  rintro d rest legal (head | tail)
  · exact step_write_readOnly (row := ⟨0x00C, some .ldwHead, none⟩) legal head (by decide) rfl rfl
  · exact step_write_readOnly (row := ⟨0x010, some .ldwTail, none⟩) legal tail (by decide) rfl rfl

end Sys2Proof.Machine
end

section
/-! PROOFS. The family 40_host_commands: the command words, and `INIT`, `GENMASK`, `PUBLISH` and the write to `CMD`. -/

namespace Sys2Proof

/-! ## The command words (30_encoding R104) -/

/-- A command word is its argument above its opcode (30_encoding R103). -/
theorem word_eq_arg_append_op {w : Word} {op : Byte} {arg : BitVec 24} (hop : w.extractLsb' 0 8 = op)
    (harg : w.extractLsb' 8 24 = arg) : w = arg ++ op := by
  rw [← hop, ← harg, BitVec.extractLsb'_append_extractLsb'_eq_extractLsb' (by rfl), BitVec.extractLsb'_eq_self]

/-- The decoder takes the word of a command back to that command. -/
theorem decodeCommand_encodeCommand (c : Command) : decodeCommand (encodeCommand c) = some c := by
  cases c with
  | disable ovr => cases ovr <;> rfl
  | _ => rfl

/-- Only a command's own word decodes to it: each row of R104 fixes the opcode and the whole argument. -/
theorem eq_encodeCommand_of_decodeCommand {w : Word} {c : Command} (h : decodeCommand w = some c) :
    w = encodeCommand c := by
  simp only [decodeCommand] at h
  repeat' split at h
  all_goals cases h
  all_goals
    rename_i fields
    exact word_eq_arg_append_op fields.1 fields.2

/-- The command words of R104 are exactly the encoder's. -/
theorem encodeCommand_mem_legalCommandWords (c : Command) : (encodeCommand c).toNat ∈ legalCommandWords := by
  cases c with
  | disable ovr => cases ovr <;> decide
  | _ => decide

/-- A word that is no command word decodes to no command (30_encoding R107). -/
theorem decodeCommand_eq_none {w : Word} (h : w.toNat ∉ legalCommandWords) : decodeCommand w = none := by
  rw [Option.eq_none_iff_forall_ne_some]
  intro c hc
  have own := encodeCommand_mem_legalCommandWords c
  rw [← eq_encodeCommand_of_decodeCommand hc] at own
  exact h own

namespace Machine

/-! ## The write to `CMD` (40_host_commands R136, R138) -/

/-- `refuse` sets the flag of its cause and changes nothing else. -/
theorem State.refuse_eq (c : Cause) (s : State) : s.refuse c = { s with flags := s.flags.set c } := rfl

/-- A write to `CMD` answers the state of its effect. -/
theorem exec_stwCmd (d : Word) (s : State) : exec (.stwCmd d) s = .next (cmdWriteEffect d s) := rfl

/-- Writing a command's word to `CMD` is executing the command. -/
theorem exec_stwCmd_encodeCommand (c : Command) (s : State) :
    exec (.stwCmd (encodeCommand c)) s = exec c.toInstr s := by
  rw [exec_toInstr, exec_stwCmd, cmdWriteEffect_eq, decodeCommand_encodeCommand]

/-- Writing a word that encodes no command is refused with `ERR_CMD`. -/
theorem exec_stwCmd_of_decode_none {d : Word} (h : decodeCommand d = none) (s : State) :
    exec (.stwCmd d) s = .next { s with flags := { s.flags with errCmd := true } } := by
  rw [exec_stwCmd, cmdWriteEffect_eq, h]
  exact congrArg Host.Outcome.next (State.refuse_eq .errCmd s)

/-! ## `GENMASK` (40_host_commands R134) -/

/-- `GENMASK` copies the two invert settings into the active masks. -/
theorem exec_genmask (s : State) :
    exec .genmask s = .next { s with stepInv := s.settings.stepInv, dirInv := s.settings.dirInv } :=
  exec_toInstr .genmask s

/-- Settles O18. -/
theorem genmaskCopiesSettings : Obligations.GenmaskCopiesSettings :=
  exec_genmask

/-- Settles O20: the legal words are the encoder's, so they execute their commands; the decoder answers nothing on
any other word. -/
theorem commandWriteExecutesOrRefuses : Obligations.CommandWriteExecutesOrRefuses := by
  intro s
  have write := fun c => exec_stwCmd_encodeCommand c s
  exact ⟨write .init, write .wake, write (.disable false), write (.disable true), write .reset, write .genmask,
    write .publish, (write .genmask).trans (exec_genmask s),
    fun d illegal => exec_stwCmd_of_decode_none (decodeCommand_eq_none illegal) s⟩

/-! ## `INIT` (40_host_commands R130) -/

/-- `INIT` drives the pins and puts the timer at its defaults. -/
theorem exec_init (s : State) :
    exec .init s = .next { s with
      lines := { s.lines with pinsDriven := true }, timer := TimerRegs.default s.cfg } :=
  exec_toInstr .init s

/-- The default reload is `STEP_TIMER_MIN` (10_state R49). -/
theorem TimerRegs.default_arr_toNat {c : Config} (legal : c.legal = true) :
    (TimerRegs.default c).arr.toNat = c.stepTimerMin :=
  stepTimerMin_toNat legal

/-- The default compare is three quarters of `STEP_TIMER_MIN` (10_state R49). -/
theorem TimerRegs.default_ccr_toNat {c : Config} (legal : c.legal = true) :
    (TimerRegs.default c).ccr.toNat = 3 * c.stepTimerMin / 4 := by
  have compare : (TimerRegs.default c).ccr.toNat = 3 * (TimerRegs.default c).arr.toNat / 4 := compareOf_toNat _
  rw [compare, default_arr_toNat legal]

/-- Settles O14: the second `INIT` writes the same values again; the read of `PINS` after POR is evaluated. -/
theorem initConfiguresTimerAndPins : Obligations.InitConfiguresTimerAndPins := by
  constructor
  · intro s legal
    refine ⟨_, exec_init s, ?again, rfl, rfl, rfl, TimerRegs.default_arr_toNat legal,
      TimerRegs.default_ccr_toNat legal⟩
    case again => rw [exec_init]
  · exact ⟨_, _, exec_init State.reset, rfl, by decide⟩

/-! ## `PUBLISH` (40_host_commands R135) -/

/-- The ring of a legal configuration is full exactly when the index after `head` is `tail` (10_state R33). -/
theorem State.isFull_iff {s : State} (legal : s.cfg.legal = true) :
    s.isFull = true ↔ (s.head.toNat + 1) % s.cfg.nSeg = s.tail.toNat := by
  rw [State.isFull, beq_iff_eq, ← BitVec.toNat_inj, nextIndex_toNat legal, eq_comm]

/-- `PUBLISH` on a full ring is refused with `ERR_FULL`. -/
theorem exec_publish_of_full {s : State} (full : s.isFull = true) :
    exec .publish s = .next { s with flags := { s.flags with errFull := true } } := by
  have effect : publishEffect s = s.refuse .errFull := if_pos full
  exact congrArg Host.Outcome.next (effect.trans (State.refuse_eq .errFull s))

/-- `PUBLISH` on a ring with room advances `head` by one slot. -/
theorem exec_publish_of_not_full {s : State} (room : ¬ s.isFull = true) :
    exec .publish s = .next { s with head := nextIndex s.cfg s.head } :=
  congrArg Host.Outcome.next (if_neg room)

/-- Settles O19: the two branches of `PUBLISH`, with `FULL` read as a relation of the indices. -/
theorem publishAdvancesHead : Obligations.PublishAdvancesHead := by
  intro s legal
  rw [← State.isFull_iff legal]
  constructor
  · exact exec_publish_of_full
  · intro room
    rw [ne_eq, ← State.isFull_iff legal] at room
    exact ⟨nextIndex s.cfg s.head, nextIndex_toNat legal s.head, exec_publish_of_not_full room⟩

end Machine

end Sys2Proof
end

section
/-! PROOFS. The family 41_see_tick: a position at the end of its range. -/

namespace Sys2Proof.Machine

/-! ## A step of one axis (41_see_tick R185, R186) -/

/-- An accumulator steps when its sum is above the event count (41_see_tick R185, R193). -/
theorem bresenham_step_of_lt {counter increment sec : Word} (above : sec.toNat < (counter + increment).toNat) :
    (bresenham counter increment sec).step = true := by
  simp only [bresenham, if_pos above]

/-- An existing axis steps when its accumulator does. -/
theorem State.axisSteps_of_lt {s : State} {i : Axis} (hasAxis : s.cfg.hasAxis i = true)
    (above : (s.blkSec s.exec.blockIndex.toNat).toNat < (s.exec.counter.get i + s.exec.steps.get i).toNat) :
    s.axisSteps i = true := by
  rw [State.axisSteps, State.axisUpdate, hasAxis, bresenham_step_of_lt above, Bool.and_self]

/-- Phase A touches nothing that decides whether an axis steps. -/
@[simp] theorem State.phaseA_axisSteps (s : State) (i : Axis) : s.phaseA.axisSteps i = s.axisSteps i := rfl

/-- Phase A keeps the bound block's directions. -/
@[simp] theorem State.phaseA_dirBits (s : State) :
    s.phaseA.blkDirBits s.phaseA.exec.blockIndex.toNat = s.blkDirBits s.exec.blockIndex.toNat := rfl

/-- `SEG` on a bound segment is Phase A and one tick of that segment, with no load and no fault check between them
(41_see_tick R173). -/
theorem exec_seg_of_bound {s : State} (bound : s.exec.segValid = true) (f : Segment) :
    exec (.seg f) s = .next (s.phaseA.runSegment f) := by
  have tick : s.segmentTick f = s.phaseA.runSegment f := if_pos bound
  exact congrArg Host.Outcome.next tick

/-- Outside backlash motion, an existing axis that steps moves by one in the direction of the bound block
(41_see_tick R186). -/
theorem State.runSegment_phaseA_sysPosition_of_step {f : Segment} {s : State} {i : Axis}
    (hasAxis : s.cfg.hasAxis i = true) (moves : f.backlashMotion = false) (steps : s.axisSteps i = true) :
    (s.phaseA.runSegment f).sysPosition.get i =
      movePosition ((s.blkFlg s.exec.blockIndex.toNat).getLsbD i.val) (s.sysPosition.get i) := by
  rw [← State.blkDirBits_bit s _ hasAxis]
  simp [State.runSegment_sysPosition, steps, moves]

/-! ## The ends of the range (41_see_tick R194) -/

/-- One unit up from the largest position is the smallest. -/
theorem movePosition_up_of_max {p : Word} (max : p.toInt = 2 ^ 31 - 1) :
    (movePosition false p).toInt = -2 ^ 31 := by
  have largest : p = BitVec.intMax 32 := BitVec.eq_of_toInt_eq max
  rw [largest]
  decide

/-- One unit down from the smallest position is the largest. -/
theorem movePosition_down_of_min {p : Word} (min : p.toInt = -2 ^ 31) :
    (movePosition true p).toInt = 2 ^ 31 - 1 := by
  have smallest : p = BitVec.intMin 32 := BitVec.eq_of_toInt_eq min
  rw [smallest]
  decide

/-- Settles O31: the tick moves the axis modulo 2^32, and a tick of a bound segment writes no flag. -/
theorem positionWrapsWithoutFault : Obligations.PositionWrapsWithoutFault := by
  intro f s i _ bound axis moves above
  have hasAxis : s.cfg.hasAxis i = true := decide_eq_true axis
  have position := State.runSegment_phaseA_sysPosition_of_step hasAxis moves (State.axisSteps_of_lt hasAxis above)
  have flags : (s.phaseA.runSegment f).flags = s.flags := by simp
  constructor
  · intro up max
    refine ⟨_, exec_seg_of_bound bound f, ?_, flags⟩
    rw [position, up, movePosition_up_of_max max]
  · intro down min
    refine ⟨_, exec_seg_of_bound bound f, ?_, flags⟩
    rw [position, down, movePosition_down_of_min min]

end Sys2Proof.Machine
end

section
/-! PROOFS. The decoder and the encoder, each the other's inverse on defined bits
(30_encoding R99 to R107, 20_memory R76). -/

namespace Sys2Proof

/-! ## Format SEG64 (30_encoding R100, R101) -/

/-- The decoder reads back the fields the encoder lays out. -/
theorem decodeSegment_encodeSegment (f : Segment) : decodeSegment (encodeSegment f) = f := by
  obtain ⟨nStep, cyclesPerTick, stBlockIndex, amassLevel, backlashMotion, spindlePwm⟩ := f
  simp only [decodeSegment, encodeSegment, Segment.mk.injEq]
  refine ⟨?_, ?_, ?_, ?_, ?_, ?_⟩
  case refine_5 =>
    simp only [BitVec.getLsbD_append]
    simp
  all_goals
    apply BitVec.eq_of_getLsbD_eq
    intro k hk
    simp only [BitVec.getLsbD_extractLsb', BitVec.getLsbD_append]
    grind

/-- The mask of the defined bits of a segment descriptor: all but 47..45. -/
theorem segmentMask_getLsbD {k : Nat} (hk : k < 64) :
    (0xFFFF1FFFFFFFFFFF#64).getLsbD k = decide (k < 45 ∨ 48 ≤ k) := by
  revert k
  decide

/-- Encoding a decoded word clears its reserved bits 47..45 and keeps every other bit (30_encoding R106). -/
theorem encodeSegment_decodeSegment (w : SegWord) :
    encodeSegment (decodeSegment w) = w &&& 0xFFFF1FFFFFFFFFFF#64 := by
  apply BitVec.eq_of_getLsbD_eq
  intro k hk
  simp only [decodeSegment, encodeSegment, BitVec.getLsbD_append, BitVec.getLsbD_extractLsb', BitVec.getLsbD_and,
    segmentMask_getLsbD hk, BitVec.getLsbD_ofBool, BitVec.getLsbD_zero]
  grind


/-! ## Format MMIO: the scalar rows (20_memory R76) -/

/-- Every scalar register lies below the position registers or between them and the pool. -/
theorem scalarRows_addr_range : ∀ row ∈ scalarRows,
    row.addr.toNat < 0x040 ∨ (0x060 ≤ row.addr.toNat ∧ row.addr.toNat < 0x100) := by
  decide

/-- An address of an array row is no scalar register's (30_encoding R105). -/
theorem scalarRows_find?_eq_none {addr : BitVec 12}
    (array : (0x040 ≤ addr.toNat ∧ addr.toNat < 0x060) ∨ 0x100 ≤ addr.toNat) :
    scalarRows.find? (fun r => r.addr == addr) = none := by
  rw [List.find?_eq_none]
  intro row mem same
  have range := scalarRows_addr_range row mem
  rw [beq_iff_eq.1 same] at range
  omega

/-- Each instruction of a scalar row is well formed and has the row's address for its word. -/
theorem scalarRows_encode : ∀ row ∈ scalarRows,
    (∀ i, row.read = some i → WellFormed i = true ∧ encode i = some (.mmio false row.addr 0)) ∧
      ∀ f, row.write = some f → ∀ d, WellFormed (f d) = true ∧ encode (f d) = some (.mmio true row.addr d) := by
  intro row mem
  fin_cases mem
  all_goals
    constructor
    · intro i read
      cases read <;> exact ⟨rfl, rfl⟩
    · intro f write d
      cases write <;> exact ⟨rfl, rfl⟩

/-! ## Format MMIO: the array rows (20_memory R76, 30_encoding R105) -/

/-- The address of `POS[i]` as a number. -/
theorem posAddr_toNat (i : BitVec 3) : (posAddr i).toNat = 0x040 + 4 * i.toNat := by
  revert i
  decide

/-- The address of a pool word as a number, for an index the address can hold. -/
theorem poolAddr_toNat {b : BitVec 7} (inMap : b.toNat < 120) (word : BitVec 3) :
    (poolAddr b word).toNat = 0x100 + 0x20 * b.toNat + 4 * word.toNat := by
  have := word.isLt
  simp [poolAddr, BitVec.toNat_add, Nat.shiftLeft_eq]
  omega

/-- The two low bits of an address are its remainder modulo 4. -/
theorem aligned_iff (addr : BitVec 12) : addr.extractLsb' 0 2 = 0 ↔ addr.toNat % 4 = 0 := by
  rw [← BitVec.toNat_inj]
  simp [BitVec.extractLsb'_toNat]

/-- A decoded access to `POS[i]`: a read only. -/
theorem decodeMmio_pos {i : BitVec 3} {addr : BitVec 12} (at_ : addr.toNat = 0x040 + 4 * i.toNat) (we : Bool)
    (d : Word) : decodeMmio we addr d = if we then .error .readOnly else .ok (.ldwPos i) := by
  have hi := i.isLt
  have aligned : addr.extractLsb' 0 2 = 0 := (aligned_iff addr).2 (by omega)
  have index : addr.extractLsb' 2 3 = i := by
    apply BitVec.eq_of_toNat_eq
    simp only [BitVec.extractLsb'_toNat, Nat.shiftRight_eq_div_pow]
    omega
  have array : 0x040 ≤ addr.toNat ∧ addr.toNat < 0x060 := by omega
  simp only [decodeMmio, aligned, scalarRows_find?_eq_none (.inl array), index]
  rw [if_neg (by simp), if_pos (by omega)]

/-- The pool index of an address in entry `b`. -/
theorem poolIndexOf_eq {b : BitVec 7} {addr : BitVec 12} (below : 0x100 + 0x20 * b.toNat ≤ addr.toNat)
    (above : addr.toNat < 0x100 + 0x20 * b.toNat + 0x20) : poolIndexOf addr = b := by
  have := b.isLt
  have := addr.isLt
  apply BitVec.eq_of_toNat_eq
  have base : (0x100 : BitVec 12).toNat = 0x100 := rfl
  simp only [poolIndexOf, BitVec.truncate_eq_setWidth, BitVec.toNat_setWidth, BitVec.toNat_ushiftRight,
    BitVec.toNat_sub, Nat.shiftRight_eq_div_pow, base]
  omega

/-- A decoded access to a pool word. -/
theorem decodeMmio_pool {b : BitVec 7} {word : Fin 8} {addr : BitVec 12}
    (at_ : addr.toNat = 0x100 + 0x20 * b.toNat + 4 * word.val) (we : Bool) (d : Word) :
    decodeMmio we addr d = .ok (poolInstr we b word d) := by
  have hw := word.isLt
  have aligned : addr.extractLsb' 0 2 = 0 := (aligned_iff addr).2 (by omega)
  have index : poolIndexOf addr = b := poolIndexOf_eq (by omega) (by omega)
  have which : (addr.extractLsb' 2 3).toFin = word := by
    apply Fin.ext
    simp only [BitVec.val_toFin, BitVec.extractLsb'_toNat, Nat.shiftRight_eq_div_pow]
    omega
  have array : 0x100 ≤ addr.toNat := by omega
  simp only [decodeMmio, aligned, scalarRows_find?_eq_none (.inr array), index, which]
  rw [if_neg (by simp), if_neg (by omega), if_pos (by omega)]

/-- The word of an access to a pool word: a read carries no data. -/
theorem encode_poolInstr (we : Bool) (b : BitVec 7) (word : Fin 8) (d : Word) :
    encode (poolInstr we b word d) =
      some (.mmio we (poolAddr b (BitVec.ofFin word)) (if we then d else 0)) := by
  fin_cases word <;> cases we <;> rfl

/-- An access to a pool word is well formed when its index is. -/
theorem wellFormed_poolInstr (we : Bool) (b : BitVec 7) (word : Fin 8) (d : Word) :
    WellFormed (poolInstr we b word d) = wfBlock b := by
  fin_cases word <;> cases we <;> rfl

/-- The decoder takes the word of a pool access back to it. -/
theorem decode_poolAddr {b : BitVec 7} (wf : wfBlock b = true) (word : Fin 8) (we : Bool) (d : Word) :
    decode (.mmio we (poolAddr b (BitVec.ofFin word)) d) = .ok (poolInstr we b word d) :=
  decodeMmio_pool (poolAddr_toNat (of_decide_eq_true wf) _) we d

/-- Settles O57, by the kind of instruction: segments and commands by their formats, scalar registers by their rows,
array registers by their addresses. -/
theorem decodeEncodeAgree : Obligations.DecodeEncodeAgree := by
  constructor
  · intro i w wf enc
    cases i
    case tick => cases enc
    case preset => cases enc
    case seg f =>
      cases enc
      exact congrArg (fun g => Except.ok (Instr.seg g)) (decodeSegment_encodeSegment f)
    case ldwPos k =>
      cases enc
      exact decodeMmio_pos (posAddr_toNat k) false 0
    case ldwBlkSec b => cases enc; exact decode_poolAddr wf 0 false 0
    case stwBlkSec b d => cases enc; exact decode_poolAddr wf 0 true d
    case ldwBlkFlg b => cases enc; exact decode_poolAddr wf 1 false 0
    case stwBlkFlg b d => cases enc; exact decode_poolAddr wf 1 true d
    case ldwBlkSteps0 b => cases enc; exact decode_poolAddr wf 2 false 0
    case stwBlkSteps0 b d => cases enc; exact decode_poolAddr wf 2 true d
    case ldwBlkSteps1 b => cases enc; exact decode_poolAddr wf 3 false 0
    case stwBlkSteps1 b d => cases enc; exact decode_poolAddr wf 3 true d
    case ldwBlkSteps2 b => cases enc; exact decode_poolAddr wf 4 false 0
    case stwBlkSteps2 b d => cases enc; exact decode_poolAddr wf 4 true d
    case ldwBlkSteps3 b => cases enc; exact decode_poolAddr wf 5 false 0
    case stwBlkSteps3 b d => cases enc; exact decode_poolAddr wf 5 true d
    case ldwBlkSteps4 b => cases enc; exact decode_poolAddr wf 6 false 0
    case stwBlkSteps4 b d => cases enc; exact decode_poolAddr wf 6 true d
    case ldwBlkSteps5 b => cases enc; exact decode_poolAddr wf 7 false 0
    case stwBlkSteps5 b d => cases enc; exact decode_poolAddr wf 7 true d
    case disable ovr => cases ovr <;> cases enc <;> rfl
    all_goals cases enc; rfl
  · intro i
    constructor
    · intro none
      cases i
      case tick => exact .inl rfl
      case preset => exact .inr rfl
      all_goals cases none
    · rintro (rfl | rfl) <;> rfl

/-! ## Decoding, inverted -/

/-- The address a decoded position register was read at is that register's own. -/
theorem posAddr_extractLsb' {addr : BitVec 12} (aligned : addr.extractLsb' 0 2 = 0)
    (pos : 0x040 ≤ addr.toNat ∧ addr.toNat < 0x060) : posAddr (addr.extractLsb' 2 3) = addr := by
  rw [aligned_iff] at aligned
  apply BitVec.eq_of_toNat_eq
  simp only [posAddr_toNat, BitVec.extractLsb'_toNat, Nat.shiftRight_eq_div_pow]
  omega

/-- The index decoded from a pool address, as a number. -/
theorem poolIndexOf_toNat {addr : BitVec 12} (pool : 0x100 ≤ addr.toNat) :
    (poolIndexOf addr).toNat = (addr.toNat - 0x100) / 0x20 := by
  have := addr.isLt
  have base : (0x100 : BitVec 12).toNat = 0x100 := rfl
  simp only [poolIndexOf, BitVec.truncate_eq_setWidth, BitVec.toNat_setWidth, BitVec.toNat_ushiftRight,
    BitVec.toNat_sub, Nat.shiftRight_eq_div_pow, base]
  omega

/-- Every pool index an address can hold is well formed. -/
theorem wfBlock_poolIndexOf {addr : BitVec 12} (pool : 0x100 ≤ addr.toNat) : wfBlock (poolIndexOf addr) = true := by
  have := addr.isLt
  apply decide_eq_true
  rw [poolIndexOf_toNat pool]
  omega

/-- The address a decoded pool word was accessed at is that word's own. -/
theorem poolAddr_poolIndexOf {addr : BitVec 12} (aligned : addr.extractLsb' 0 2 = 0) (pool : 0x100 ≤ addr.toNat) :
    poolAddr (poolIndexOf addr) (BitVec.ofFin (addr.extractLsb' 2 3).toFin) = addr := by
  rw [aligned_iff] at aligned
  apply BitVec.eq_of_toNat_eq
  rw [poolAddr_toNat (of_decide_eq_true (wfBlock_poolIndexOf pool)), poolIndexOf_toNat pool]
  simp only [BitVec.ofFin_toFin, BitVec.extractLsb'_toNat, Nat.shiftRight_eq_div_pow]
  omega

/-- An access that decodes gives a well-formed instruction whose word is that access, less the data of a read. -/
theorem encode_of_decodeMmio {we : Bool} {addr : BitVec 12} {d : Word} {i : Instr}
    (dec : decodeMmio we addr d = .ok i) :
    WellFormed i = true ∧ encode i = some (.mmio we addr (if we then d else 0)) := by
  unfold decodeMmio at dec
  split at dec
  case isTrue => cases dec
  case isFalse misaligned =>
    have aligned : addr.extractLsb' 0 2 = 0 := not_not.1 misaligned
    split at dec
    case h_1 row found =>
      have own := scalarRows_encode row (List.mem_of_find?_eq_some found)
      have same : row.addr = addr := by simpa using List.find?_some found
      rw [same] at own
      cases we
      · cases read : row.read with
        | none => simp [read] at dec
        | some j =>
          simp only [read, Bool.false_eq_true, if_false, Except.ok.injEq] at dec
          exact own.1 i (dec ▸ read)
      · cases write : row.write with
        | none => simp [write] at dec
        | some g =>
          simp only [write, if_true, Except.ok.injEq] at dec
          exact dec ▸ own.2 g write d
    case h_2 =>
      split at dec
      case isTrue pos =>
        cases we
        · cases dec
          exact ⟨rfl, by simp [encode, posAddr_extractLsb' aligned pos]⟩
        · cases dec
      case isFalse =>
        split at dec
        case isTrue pool =>
          cases dec
          rw [wellFormed_poolInstr, encode_poolInstr, poolAddr_poolIndexOf aligned pool]
          exact ⟨wfBlock_poolIndexOf pool, rfl⟩
        case isFalse => cases dec

/-- A command is well formed and has its own word. -/
theorem encode_toInstr (c : Command) :
    WellFormed c.toInstr = true ∧ encode c.toInstr = some (.cmd32 (encodeCommand c)) := by
  cases c <;> exact ⟨rfl, rfl⟩

/-- Settles O58, by the kind of word. -/
theorem decodedWordsReencode : Obligations.DecodedWordsReencode := by
  intro w i dec
  cases w with
  | seg64 x =>
    cases dec
    exact ⟨rfl, congrArg (fun y => some (Encoded.seg64 y)) (encodeSegment_decodeSegment x)⟩
  | cmd32 x =>
    cases command : decodeCommand x with
    | none => simp [decode, command] at dec
    | some c =>
      simp only [decode, command, Except.ok.injEq] at dec
      rw [← dec, eq_encodeCommand_of_decodeCommand command]
      exact encode_toInstr c
  | mmio we addr d => exact encode_of_decodeMmio dec

/-! ## Words of the spec -/

/-- Settles O60: each field is a slice of the word. -/
theorem segmentFieldsAreTheirBits : Obligations.SegmentFieldsAreTheirBits := by
  intro w
  have := w.isLt
  refine ⟨decodeSegment w, rfl, ?_, ?_, ?_, ?_, ?_, ?_⟩
  case refine_5 =>
    simp only [decodeSegment, BitVec.getLsbD, Nat.testBit_eq_decide_div_mod_eq]
  case refine_1 => simp [decodeSegment]
  all_goals
    simp only [decodeSegment, BitVec.extractLsb'_toNat, Nat.shiftRight_eq_div_pow]
  omega

/-- Settles O59: segments, commands and scalar rows are evaluated, the array rows hold at every index. -/
theorem specWordsDecode : Obligations.SpecWordsDecode := by
  refine ⟨⟨rfl, rfl⟩, ⟨rfl, rfl, rfl, rfl, rfl, rfl, rfl, rfl, rfl, rfl⟩, ?scalars, ?positions, ?pool⟩
  case scalars =>
    intro d
    iterate 40 refine ⟨rfl, ?_⟩
    rfl
  case positions =>
    intro i addr d at_
    exact ⟨decodeMmio_pos at_ false d, decodeMmio_pos at_ true d⟩
  case pool =>
    intro b addr d
    have word := fun (k : Fin 8) (at_ : addr.toNat = 0x100 + 0x20 * b.toNat + 4 * k.val) =>
      And.intro (decodeMmio_pool at_ false d) (decodeMmio_pool at_ true d)
    exact ⟨word 0, word 1, word 2, word 3, word 4, word 5, word 6, word 7⟩

end Sys2Proof
end

section
/-! PROOFS. The family 40_host_commands, whole: what each command leads to, and `WAKE`, `DISABLE` and `RESET`. -/

namespace Sys2Proof.Machine

/-! ## What each command leads to (40_host_commands R130 to R135) -/

/-- The state a command leads to, by command and branch, each written out. -/
inductive CommandOutcome (s : State) : Command → State → Prop where
  | init : CommandOutcome s .init
      { s with lines := { s.lines with pinsDriven := true }, timer := TimerRegs.default s.cfg }
  | wakeRefused (fault : s.flags.faultBadidx = true) : CommandOutcome s .wake
      { s with flags := { s.flags with errCmd := true } }
  | wake (sound : s.flags.faultBadidx = false) : CommandOutcome s .wake
      { s with
        lines := { s.lines with en := s.settings.invertStEnable, drvEnabled := true }
        timer := if s.timer.run then s.timer else { s.timer with tcnt := 0, run := true }
        time := if s.timer.run then s.time else s.time + s.cfg.tWake
        trace := s.trace ++ [⟨s.time, .enSet s.settings.invertStEnable⟩] }
  | disable (ovr : Bool) : CommandOutcome s (.disable ovr) (s.disableSeq ovr)
  | reset : CommandOutcome s .reset
      { s with
        exec := ExecState.zero, head := 0, tail := 0, flags := FlagBits.none, pool := [], ring := []
        epoch := s.epoch + 1, stepInv := s.settings.stepInv, dirInv := s.settings.dirInv
        timer := TimerRegs.default s.cfg, lines := { s.lines with step := 0, dir := 0 }
        trace := s.genMasks.allLinesLow.trace }
  | genmask : CommandOutcome s .genmask
      { s with stepInv := s.settings.stepInv, dirInv := s.settings.dirInv }
  | publishRefused (full : s.isFull = true) : CommandOutcome s .publish
      { s with flags := { s.flags with errFull := true } }
  | publish (room : ¬ s.isFull = true) : CommandOutcome s .publish { s with head := nextIndex s.cfg s.head }

/-- `WAKE` with no fault, whole (40_host_commands R131). -/
theorem wakeEffect_eq {s : State} (sound : s.flags.faultBadidx = false) :
    wakeEffect s = { s with
      lines := { s.lines with en := s.settings.invertStEnable, drvEnabled := true }
      timer := if s.timer.run then s.timer else { s.timer with tcnt := 0, run := true }
      time := if s.timer.run then s.time else s.time + s.cfg.tWake
      trace := s.trace ++ [⟨s.time, .enSet s.settings.invertStEnable⟩] } := by
  unfold wakeEffect
  rw [if_neg (by simp [sound])]
  cases running : s.timer.run <;> apply State.ext <;> simp [running, State.startTimer]

/-- Every command leads to one of its outcomes. -/
theorem commandOutcome (c : Command) (s : State) : CommandOutcome s c (commandEffect c s) := by
  cases c with
  | init => exact .init
  | wake =>
    cases fault : s.flags.faultBadidx with
    | true =>
      have effect : commandEffect .wake s = s.refuse .errCmd := if_pos fault
      exact effect ▸ .wakeRefused fault
    | false =>
      rw [show commandEffect .wake s = wakeEffect s from rfl, wakeEffect_eq fault]
      exact .wake fault
  | disable ovr => exact .disable ovr
  | reset => exact .reset
  | genmask => exact .genmask
  | publish =>
    by_cases full : s.isFull = true
    · have effect : commandEffect .publish s = s.refuse .errFull := if_pos full
      exact effect ▸ .publishRefused full
    · have effect : commandEffect .publish s = { s with head := nextIndex s.cfg s.head } := if_neg full
      exact effect ▸ .publish full

/-! ## `WAKE` (40_host_commands R131) -/

/-- Settles O15. -/
theorem wakeEnablesAndStarts : Obligations.WakeEnablesAndStarts := by
  intro s
  constructor
  · intro fault
    exact congrArg Host.Outcome.next (if_pos fault)
  · intro sound
    exact congrArg Host.Outcome.next (wakeEffect_eq sound)

/-! ## `DISABLE` (40_host_commands R132, R139) -/

/-- Masking with the existing axes keeps the bits of an existing axis. -/
theorem and_axisMask_bit {c : Config} {i : Axis} (axis : i.val < c.nAxis) (m : AxisBits) :
    AxisBits.bit (m &&& c.axisMask) i = m.bit i := by
  have hasAxis : c.hasAxis i = true := decide_eq_true axis
  simp [hasAxis]

/-- The events of idling the STEP lines, after those before. -/
theorem State.idleSteps_events (s : State) :
    eventsOf s.idleSteps.trace =
      eventsOf s.trace ++ (s.cfg.axes.filter fun i => s.stepActive i).map OutEvent.stepFall := by
  rw [State.idleSteps_falls, eventsOf_append]
  simp [eventsOf, Function.comp_def]

/-- The events of the Disable sequence, after those before. -/
theorem State.disableSeq_events (ovr : Bool) (s : State) :
    eventsOf (s.disableSeq ovr).trace =
      eventsOf s.trace ++
        ((s.cfg.axes.filter fun i => s.stepActive i).map OutEvent.stepFall ++
          [.enSet ((s.dwells || ovr) ^^ s.settings.invertStEnable)]) := by
  rw [State.disableSeq_eq]
  simp only [eventsOf_append, State.idleSteps_events, List.append_assoc]
  rfl

/-- Settles O16. -/
theorem disableSequenceEffect : Obligations.DisableSequenceEffect := by
  intro s ovr
  refine ⟨s.disableSeq ovr, s.dwells || ovr, rfl, ?_, ?_, ?_, State.disableSeq_events ovr s⟩
  · rw [Bool.or_eq_true, State.dwells_iff]
  · intro i axis
    rw [State.disableSeq_eq]
    exact and_axisMask_bit axis s.stepInv
  · rw [State.disableSeq_eq]

/-- The Disable sequence stops the timer and keeps its count and reloads. -/
theorem State.disableSeq_timer (ovr : Bool) (s : State) :
    (s.disableSeq ovr).timer = { s.timer with run := false } := by
  rw [State.disableSeq_eq]

/-- The Disable sequence writes no DIR line. -/
theorem State.disableSeq_dir (ovr : Bool) (s : State) : (s.disableSeq ovr).lines.dir = s.lines.dir := by
  rw [State.disableSeq_eq]

/-- Settles O21: `DISABLE` keeps the engine's state and stops the timer, so that `WAKE` starts it from 0. -/
theorem disableThenWakeResumes : Obligations.DisableThenWakeResumes := by
  intro s t u ovr sound disabled woken
  cases disabled
  cases woken
  have still : (disableEffect ovr s).flags.faultBadidx = false := by
    rw [disableEffect, State.disableSeq_flags, sound]
  rw [wakeEffect_eq still]
  simp [disableEffect, State.disableSeq_timer, State.disableSeq_dir]

/-! ## `RESET` (40_host_commands R133) -/

/-- In a stretch made axis by axis, an event that only axis `i` can make is counted in that axis's part. -/
theorem count_axes_flatMap {c : Config} {i : Axis} (axis : i.val < c.nAxis) {e : OutEvent} {f : Axis → List OutEvent}
    (others : ∀ j, j ≠ i → (f j).count e = 0) : (c.axes.flatMap f).count e = (f i).count e := by
  have nodup : c.axes.Nodup := List.Nodup.filter _ (by decide)
  have mem : i ∈ c.axes := (c.mem_axes i).2 (decide_eq_true axis)
  have single := List.sum_map_eq_nsmul_single (l := c.axes) i (List.count e ∘ f) fun j ne _ => others j ne
  rw [List.count_flatMap, single, List.count_eq_one_of_mem nodup mem, one_nsmul]
  rfl

/-- Counting an event in a stretch stamped with one time. -/
theorem countEvent_stamped (e : OutEvent) (time : Nat) (es : List OutEvent) :
    countEvent e (es.map fun x => ⟨time, x⟩) = es.count e := by
  simp only [countEvent, List.countP_map, List.count, Function.comp_def]

/-- Driving a STEP line makes events of that line only. -/
theorem State.mem_stepEvent {s : State} {i : Axis} {level : Bool} {e : OutEvent} (mem : e ∈ s.stepEvent i level) :
    e = .stepRise i ∨ e = .stepFall i := by
  unfold State.stepEvent at mem
  split_ifs at mem <;> simp_all

/-- Driving a DIR line makes events of that line only. -/
theorem State.mem_dirEvent {s : State} {i : Axis} {level : Bool} {e : OutEvent} (mem : e ∈ s.dirEvent i level) :
    e = .dirSet i level := by
  unfold State.dirEvent at mem
  split_ifs at mem <;> simp_all

/-- The events of driving the lines of axis `i` low (40_host_commands R133). -/
def State.lowEvents (s : State) (i : Axis) : List OutEvent :=
  s.stepEvent i false ++ s.dirEvent i false

/-- The lines of an axis driven low make no event of any other kind or axis. -/
theorem State.count_lowEvents_eq_zero {s : State} {i : Axis} {e : OutEvent} (rise : e ≠ .stepRise i)
    (fall : e ≠ .stepFall i) (dir : e ≠ .dirSet i false) : (s.lowEvents i).count e = 0 := by
  rw [List.count_eq_zero, State.lowEvents, List.mem_append]
  rintro (step | low)
  · exact (State.mem_stepEvent step).elim rise fall
  · exact dir (State.mem_dirEvent low)

/-- The lines of one axis driven low: a rise or a fall of a STEP line that was high, by its idle level, and a change of
a DIR line that was high. -/
theorem State.count_lowEvents (s : State) (i : Axis) :
    (s.lowEvents i).count (.stepRise i) = (if s.lines.step.bit i && s.stepInv.bit i then 1 else 0) ∧
      (s.lowEvents i).count (.stepFall i) = (if s.lines.step.bit i && !s.stepInv.bit i then 1 else 0) ∧
      (s.lowEvents i).count (.dirSet i false) = (if s.lines.dir.bit i then 1 else 0) := by
  unfold State.lowEvents State.stepEvent State.dirEvent
  cases s.lines.step.bit i <;> cases s.stepInv.bit i <;> cases s.lines.dir.bit i <;> simp

/-- An event of another kind is in no part of a stretch. -/
theorem count_flatMap_eq_zero {e : OutEvent} {f : Axis → List OutEvent} (none : ∀ j, (f j).count e = 0)
    (l : List Axis) : (l.flatMap f).count e = 0 := by
  rw [List.count_eq_zero, List.mem_flatMap]
  rintro ⟨j, -, mem⟩
  exact List.count_eq_zero.1 (none j) mem

/-- Settles O17: each line's own events are those of driving it low under the new mask. -/
theorem resetZeroesTheStepper : Obligations.ResetZeroesTheStepper := by
  intro s legal
  have ccr : compareOf (BitVec.ofNat 16 s.cfg.stepTimerMin) = BitVec.ofNat 16 (3 * s.cfg.stepTimerMin / 4) := by
    rw [compareOf, stepTimerMin_toNat legal, Nat.shiftRight_eq_div_pow]
  refine ⟨resetEffect s, (s.cfg.axes.flatMap s.genMasks.lowEvents).map fun e => ⟨s.time, e⟩, rfl, ?state, ?events⟩
  case state =>
    rw [← ccr]
    rfl
  case events =>
    intro i axis
    obtain ⟨rise, fall, dir⟩ := s.genMasks.count_lowEvents i
    simp only [countEvent_stamped]
    refine ⟨?_, ?_, ?_, ?_, ?_, ?_⟩
    · rw [count_axes_flatMap axis, rise]
      · rfl
      · exact fun j ne => State.count_lowEvents_eq_zero (by simp [ne.symm]) (by simp) (by simp)
    · rw [count_axes_flatMap axis, fall]
      · rfl
      · exact fun j ne => State.count_lowEvents_eq_zero (by simp) (by simp [ne.symm]) (by simp)
    · rw [count_axes_flatMap axis, dir]
      · rfl
      · exact fun j ne => State.count_lowEvents_eq_zero (by simp) (by simp) (by simp [ne.symm])
    all_goals
      exact count_flatMap_eq_zero (fun j => State.count_lowEvents_eq_zero (by simp) (by simp) (by simp)) _

end Sys2Proof.Machine
end

section
/-! PROOFS. The host port: which accesses are legal, what an access to an array register does, and the refusals
(20_memory R73, R76, R77, 40_host_commands R137, R138). -/

namespace Sys2Proof

/-! ## Masks of the existing axes -/

/-- Bit `k` of the axis mask, for any number `k`. -/
theorem Config.axisMask_getLsbD (c : Config) (k : Nat) :
    c.axisMask.getLsbD k = (decide (k < 6) && decide (k < c.nAxis)) := by
  by_cases inside : k < 6
  · have bit := c.axisMask_bit ⟨k, inside⟩
    simpa [AxisBits.bit, Config.hasAxis, inside] using bit
  · simp [BitVec.getLsbD_of_ge _ _ (not_lt.1 inside), inside]

/-- Bit `k` of the axis mask of a legal configuration, which has at most six axes. -/
theorem Config.axisMask_getLsbD_of_legal {c : Config} (legal : c.legal = true) (k : Nat) :
    c.axisMask.getLsbD k = decide (k < c.nAxis) := by
  have axes := ((Config.legal_iff c).1 legal).1
  rw [Config.axisMask_getLsbD]
  by_cases inside : k < 6
  · simp [inside]
  · have : ¬ k < c.nAxis := by omega
    simp [inside, this]

/-- The defined bits of a pool entry's `FLG` word: the existing axes and bit 8 (30_encoding R102). -/
theorem Config.flgMask_getLsbD {c : Config} (legal : c.legal = true) (k : Nat) :
    c.flgMask.getLsbD k = (decide (k < c.nAxis) || decide (k = 8)) := by
  have axes := ((Config.legal_iff c).1 legal).1
  have rate : (0x100 : Word).getLsbD k = decide (k = 8) := by
    rw [show (0x100 : Word) = BitVec.twoPow 32 8 from rfl, BitVec.getLsbD_twoPow]
    simp [eq_comm]
  simp only [Config.flgMask, BitVec.getLsbD_or, rate, BitVec.zeroExtend, BitVec.getLsbD_setWidth,
    Config.axisMask_getLsbD_of_legal legal]
  by_cases inside : k < c.nAxis
  · simp [inside, show k < 32 by omega]
  · simp [inside]

/-! ## Where an address leads (20_memory R76) -/

/-- The registers of the scalar rows are readable and writable as the address map lists them. -/
theorem scalarRows_directions : ∀ row ∈ scalarRows,
    (row.read.isSome = true ↔ row.addr.toNat ∈ readableScalars) ∧
      (row.write.isSome = true ↔ row.addr.toNat ∈ writableScalars) := by
  decide

/-- The scalar registers a transaction may access lie outside the array registers. -/
theorem scalars_range : (∀ a ∈ readableScalars, (a < 0x040 ∨ 0x060 ≤ a) ∧ a < 0x100 ∧ a % 4 = 0) ∧
    ∀ a ∈ writableScalars, a < 0x040 ∧ a % 4 = 0 := by
  decide

/-- Every accessible scalar register has its row. -/
theorem scalarRows_complete : ∀ a ∈ readableScalars ++ writableScalars, ∃ row ∈ scalarRows, row.addr.toNat = a := by
  decide

/-- What an access to a scalar register decodes to: its row's instruction in that direction, or a refusal. -/
def ScalarRow.access (row : ScalarRow) (we : Bool) (d : Word) : Except DecodeError Instr :=
  if we then
    match row.write with
    | some f => .ok (f d)
    | none => .error .readOnly
  else
    match row.read with
    | some i => .ok i
    | none => .error .writeOnly

/-- An access by the place its address leads to: off the words, a scalar register, a position, a pool word, or a gap. -/
theorem decodeMmio_cases (we : Bool) (addr : BitVec 12) (d : Word) :
    (addr.toNat % 4 ≠ 0 ∧ decodeMmio we addr d = .error .misaligned) ∨
    (∃ row ∈ scalarRows, row.addr = addr ∧ decodeMmio we addr d = row.access we d) ∨
    (∃ i : BitVec 3, addr.toNat = 0x040 + 4 * i.toNat) ∨
    (∃ (b : BitVec 7) (word : Fin 8), addr.toNat = 0x100 + 0x20 * b.toNat + 4 * word.val) ∨
    ((∀ row ∈ scalarRows, row.addr ≠ addr) ∧ addr.toNat < 0x100 ∧ ¬ (0x040 ≤ addr.toNat ∧ addr.toNat < 0x060) ∧
      decodeMmio we addr d = .error .unmapped) := by
  by_cases aligned : addr.extractLsb' 0 2 = 0
  case neg =>
    exact .inl ⟨fun multiple => aligned ((aligned_iff addr).2 multiple), if_pos aligned⟩
  cases found : scalarRows.find? (fun r => r.addr == addr) with
  | some row =>
    have same : row.addr = addr := by simpa using List.find?_some found
    refine .inr (.inl ⟨row, List.mem_of_find?_eq_some found, same, ?_⟩)
    simp only [decodeMmio, aligned, found]
    rfl
  | none =>
    by_cases pos : 0x040 ≤ addr.toNat ∧ addr.toNat < 0x060
    · exact .inr (.inr (.inl ⟨addr.extractLsb' 2 3, by rw [← posAddr_toNat, posAddr_extractLsb' aligned pos]⟩))
    by_cases pool : 0x100 ≤ addr.toNat
    · have wf := of_decide_eq_true (wfBlock_poolIndexOf pool)
      refine .inr (.inr (.inr (.inl ⟨poolIndexOf addr, (addr.extractLsb' 2 3).toFin, ?_⟩)))
      conv_lhs => rw [← poolAddr_poolIndexOf aligned pool, poolAddr_toNat wf]
      rfl
    · refine .inr (.inr (.inr (.inr ⟨?_, not_le.1 pool, pos, ?_⟩)))
      · intro row mem same
        exact (List.find?_eq_none.1 found) row mem (beq_iff_eq.2 same)
      · simp [decodeMmio, aligned, found, pos, pool]

namespace Machine

/-! ## Array registers: what an access does -/

/-- A read of a pool word is `ldwPool`. -/
theorem exec_poolInstr_read (b : BitVec 7) (word : Fin 8) (d : Word) (s : State) :
    exec (poolInstr false b word d) s = .next (s.ldwPool b word.val) := by
  fin_cases word <;> rfl

/-- A write of a pool word is `stwPool`. -/
theorem exec_poolInstr_write (b : BitVec 7) (word : Fin 8) (d : Word) (s : State) :
    exec (poolInstr true b word d) s = .next (s.stwPool b word.val d) := by
  fin_cases word <;> rfl

/-- A pool word exists when its entry does and its axis does (20_memory R77). -/
theorem State.hasPoolWord_iff (s : State) (b : BitVec 7) (word : Nat) :
    s.hasPoolWord b word = true ↔ b.toNat < s.cfg.nBlk ∧ word < 2 + s.cfg.nAxis := by
  simp [State.hasPoolWord, State.hasBlock]

/-- `POS[i]` of an existing axis holds its position. -/
theorem State.posWord_of_lt {s : State} {a : Axis} (inside : a.val < s.cfg.nAxis) :
    s.posWord a.val = some (s.sysPosition.get a) := by
  simp [State.posWord, inside]

/-- `POS[i]` of any other axis holds nothing. -/
theorem State.posWord_of_ge {s : State} {n : Nat} (outside : s.cfg.nAxis ≤ n) : s.posWord n = none := by
  simp [State.posWord, not_lt.2 outside]

/-- A read of an existing position register. -/
theorem exec_ldwPos_of_lt {s : State} {i : BitVec 3} {a : Axis} (axis : a.val = i.toNat)
    (inside : i.toNat < s.cfg.nAxis) : exec (.ldwPos i) s = .next (s.hostReturn (s.sysPosition.get a)) := by
  have word : s.posWord i.toNat = some (s.sysPosition.get a) := by
    rw [← axis]
    exact State.posWord_of_lt (axis ▸ inside)
  simp only [exec, execLdwPos, word]

/-- A read of a position register that does not exist. -/
theorem exec_ldwPos_of_ge {s : State} {i : BitVec 3} (outside : s.cfg.nAxis ≤ i.toNat) :
    exec (.ldwPos i) s = .next (s.busError false) := by
  simp only [exec, execLdwPos, State.posWord_of_ge outside]

/-- Settles O4. -/
theorem positionRegisterReads : Obligations.PositionRegisterReads := by
  intro s i _
  exact ⟨fun inside a axis => exec_ldwPos_of_lt axis inside, fun outside => exec_ldwPos_of_ge outside⟩

/-- Settles O11: neither index names an existing word, so both accesses are refused. -/
theorem absentPoolWordsRefused : Obligations.AbsentPoolWordsRefused := by
  intro s b word d absent
  have missing : ¬ s.hasPoolWord b word.val = true := by
    rw [State.hasPoolWord_iff]
    omega
  rw [exec_poolInstr_read, exec_poolInstr_write, State.ldwPool, State.stwPool, if_neg missing, if_neg missing]
  exact ⟨rfl, rfl⟩

/-! ## Pool words: read after write (30_encoding R102, R106) -/

/-- A read does not depend on what the last read returned. -/
theorem State.ldwPool_hostReturn (b : BitVec 7) (word : Nat) (v : Word) (s : State) (h : s.hasPoolWord b word = true) :
    (s.hostReturn v).ldwPool b word = s.hostReturn (s.poolRead b word) :=
  if_pos h

/-- `FLG` reads with its undefined bits 0. -/
theorem State.poolRead_flg_undefined {s : State} (legal : s.cfg.legal = true) (b : BitVec 7) {k : Nat}
    (undefined : s.cfg.nAxis ≤ k) (rate : k ≠ 8) : (s.poolRead b 1).getLsbD k = false := by
  simp [State.poolRead, State.blkFlg, Config.flgMask_getLsbD legal, undefined, rate]

/-- The word stored is the word read, `FLG` with its defined bits only. -/
theorem State.poolRead_setPoolWord (b : BitVec 7) (word : Nat) (d : Word) (s : State) :
    (s.setPoolWord b word d).poolRead b word = if word = 1 then d &&& s.cfg.flgMask else d := by
  have stored : (s.setPoolWord b word d).poolWord (poolByteAddr b.toNat word) =
      if word = 1 then d &&& s.cfg.flgMask else d := Memory.readWord_writeWord_same _ _ _ _
  by_cases flg : word = 1
  · subst flg
    rw [State.poolRead, if_pos rfl, State.blkFlg, stored, if_pos rfl, State.setPoolWord_cfg, BitVec.and_assoc,
      BitVec.and_self]
  · rw [State.poolRead, if_neg flg, stored]

/-- Settles O10. -/
theorem poolWordsReadBack : Obligations.PoolWordsReadBack := by
  intro s b word d d' legal block axis
  have exists_ : s.hasPoolWord b word.val = true := (State.hasPoolWord_iff s b word.val).2 ⟨block, axis⟩
  have read := exec_poolInstr_read b word d'
  constructor
  · refine ⟨s.poolRead b word.val, ?_, ?_, ?_⟩
    · rw [read, State.ldwPool, if_pos exists_]
      rfl
    · rw [read]
      exact congrArg Host.Outcome.next (State.ldwPool_hostReturn b word.val _ s exists_)
    · intro flg k undefined rate
      rw [flg]
      exact State.poolRead_flg_undefined legal b undefined rate
  · refine ⟨s.setPoolWord b word.val d, (s.setPoolWord b word.val d).poolRead b word.val, ?_, ?_, ?_, ?_, rfl, ?_⟩
    · rw [exec_poolInstr_write, State.stwPool, if_pos exists_]
    · rw [read, State.ldwPool, if_pos (show (s.setPoolWord b word.val d).hasPoolWord b word.val = true from exists_)]
      rfl
    · intro other
      rw [State.poolRead_setPoolWord, if_neg other]
    · intro flg k
      rw [State.poolRead_setPoolWord, if_pos flg, BitVec.getLsbD_and, Config.flgMask_getLsbD legal, Bool.and_comm]
    · intro a outside
      exact Memory.read_writeWord_other _ _ outside

/-! ## The transaction's instruction (30_encoding R99, R107) -/

/-- Whatever instruction a full-width transaction decodes to is run: a write to `CMD` runs the command its word encodes,
which is what `STW.CMD` does. -/
theorem hostStep_of_decode {x : HostTxn} {i : Instr} (word : x.width = .word)
    (dec : decode (.mmio x.we x.addr x.data) = .ok i) (s : State) : hostStep x s = exec i s := by
  unfold hostStep hostInstr
  rw [if_pos word, dec]
  cases i
  case stwCmd d =>
    rw [exec_stwCmd, cmdWriteEffect_eq]
    cases command : decodeCommand d with
    | none => simp only [decode, command]; rw [exec_stwCmd, cmdWriteEffect_eq, command]
    | some c => simp only [decode, command]; exact exec_toInstr c s
  all_goals rfl

/-- A transaction that stands for no instruction is refused. -/
theorem hostStep_of_error {x : HostTxn} {e : DecodeError} (refused : hostInstr x = .error e) (s : State) :
    hostStep x s = .next (s.busError x.we) := by
  simp [hostStep, refused]

/-- A step whose input is a transaction carries it out on the state with that input taken. -/
theorem step_host {s : State} {x : HostTxn} {rest : List Input} (legal : s.cfg.legal = true)
    (input : s.inputs = .host x :: rest) : step s = hostStep x { s with inputs := rest } := by
  rw [step_of_legal legal]
  simp [inputStep, takeInput, input]

/-- Settles O55. -/
theorem stepRunsTheHostInstruction : Obligations.StepRunsTheHostInstruction := by
  intro s x rest i legal input word
  rw [step_host legal input]
  have cmd : ∀ _ : x.we = true, ∀ _ : x.addr = 0x000, decode (.mmio x.we x.addr x.data) = .ok (.stwCmd x.data) := by
    intro write zero
    rw [write, zero]
    rfl
  refine ⟨fun dec _ => hostStep_of_decode word dec _, ?_, ?_⟩
  · intro write zero dec
    rw [hostStep_of_decode word (cmd write zero)]
    cases command : decodeCommand x.data with
    | none => simp [decode, command] at dec
    | some c =>
      simp only [decode, command, Except.ok.injEq] at dec
      rw [← dec, exec_toInstr, exec_stwCmd, cmdWriteEffect_eq, command]
  · intro write zero _
    exact hostStep_of_decode word (cmd write zero) _

/-! ## Legal accesses (20_memory R76, R77) -/

/-- The bits of the flags once a cause is raised. -/
@[simp] theorem FlagBits.get_set (f : FlagBits) (c k : Cause) : (f.set c).get k = (decide (k = c) || f.get k) := by
  cases c <;> cases k <;> rfl

/-- What a command does to the flags: `RESET` clears them, and a refusal sets `ERR_CMD` or `ERR_FULL`. -/
theorem CommandOutcome.flags {s t : State} {c : Command} (outcome : CommandOutcome s c t) :
    (c = .reset ∧ t.flags = FlagBits.none) ∨ t.flags = s.flags ∨
      ∃ k, (k = .errCmd ∨ k = .errFull) ∧ t.flags = s.flags.set k := by
  cases outcome with
  | reset => exact .inl ⟨rfl, rfl⟩
  | wakeRefused => exact .inr (.inr ⟨.errCmd, .inl rfl, rfl⟩)
  | publishRefused => exact .inr (.inr ⟨.errFull, .inr rfl, rfl⟩)
  | disable ovr => exact .inr (.inl (State.disableSeq_flags ovr s))
  | _ => exact .inr (.inl rfl)

/-- No command newly raises `ERR_BUS`. -/
theorem CommandOutcome.errBus {s t : State} {c : Command} (outcome : CommandOutcome s c t)
    (raised : t.flags.errBus = true) : s.flags.errBus = true := by
  change t.flags.get .errBus = true at raised
  rcases outcome.flags with ⟨-, flags⟩ | flags | ⟨k, rfl | rfl, flags⟩ <;> rw [flags] at raised
  · cases raised
  · exact raised
  all_goals
    rw [FlagBits.get_set] at raised
    exact raised

/-- A write to `CMD` never newly raises `ERR_BUS`. -/
theorem cmdWriteEffect_errBus {d : Word} {s : State} (raised : (cmdWriteEffect d s).flags.errBus = true) :
    s.flags.errBus = true := by
  rw [cmdWriteEffect_eq] at raised
  cases command : decodeCommand d with
  | some c =>
    rw [command] at raised
    exact (commandOutcome c s).errBus raised
  | none =>
    rw [command] at raised
    exact raised

/-- An access a scalar register has never newly raises `ERR_BUS`. -/
theorem exec_scalar_errBus {row : ScalarRow} (mem : row ∈ scalarRows) {we : Bool} {d : Word} {i : Instr}
    (access : row.access we d = .ok i) (s : State) :
    ∃ t, exec i s = .next t ∧ (t.flags.errBus = true → s.flags.errBus = true) := by
  fin_cases mem
  all_goals cases we <;> cases access
  case _ : ∃ t, exec (.stwCmd _) s = _ ∧ _ => exact ⟨_, rfl, cmdWriteEffect_errBus⟩
  case _ : ∃ t, exec (.stwFlags _) s = _ ∧ _ => exact ⟨_, rfl, fun raised => (Bool.and_eq_true_iff.1 raised).1⟩
  all_goals exact ⟨_, rfl, id⟩

/-- No scalar register stands at an address of the array registers. -/
theorem not_mem_scalars_of_array {a : Nat} (array : (0x040 ≤ a ∧ a < 0x060) ∨ 0x100 ≤ a) :
    a ∉ readableScalars ∧ a ∉ writableScalars := by
  constructor
  · intro listed
    have := scalars_range.1 a listed
    omega
  · intro listed
    have := scalars_range.2 a listed
    omega

/-- Off the words nothing is legal (20_memory R73). -/
theorem not_accessible_of_misaligned {c : Config} {x : HostTxn} (odd : x.addr.toNat % 4 ≠ 0) : ¬ c.Accessible x := by
  rintro ⟨-, direction⟩
  split at direction
  · rcases direction with listed | pool
    · exact odd (scalars_range.2 _ listed).2
    · exact odd pool.2.2.1
  · rcases direction with listed | pos | pool
    · exact odd (scalars_range.1 _ listed).2.2
    · exact odd pos.2.2
    · exact odd pool.2.2.1

/-- At a scalar register an access is legal in the directions its row has. -/
theorem accessible_scalar_iff {c : Config} {x : HostTxn} {row : ScalarRow} (mem : row ∈ scalarRows)
    (at_ : row.addr = x.addr) (axes : c.nAxis ≤ 6) :
    c.Accessible x ↔ x.width = .word ∧ ∃ i, row.access x.we x.data = .ok i := by
  have range := scalarRows_addr_range row mem
  obtain ⟨reads, writes⟩ := scalarRows_directions row mem
  rw [at_] at range reads writes
  refine and_congr_right fun _ => ?_
  unfold ScalarRow.access
  split
  · rw [Config.Writable, ← writes]
    cases row.write
    · simp
      omega
    · simp
  · rw [Config.Readable, ← reads]
    cases row.read
    · simp
      omega
    · simp

/-- At a position register only a read of an existing axis is legal. -/
theorem accessible_pos_iff {c : Config} {x : HostTxn} {i : BitVec 3} (at_ : x.addr.toNat = 0x040 + 4 * i.toNat) :
    c.Accessible x ↔ x.width = .word ∧ x.we = false ∧ i.toNat < c.nAxis := by
  have := i.isLt
  obtain ⟨unreadable, unwritable⟩ := not_mem_scalars_of_array (a := x.addr.toNat) (by omega)
  refine and_congr_right fun _ => ?_
  split
  · simp_all [Config.Writable]
    omega
  · simp_all [Config.Readable]
    omega

/-- At a pool word both directions are legal where the word exists. -/
theorem accessible_pool_iff {c : Config} {x : HostTxn} {b : BitVec 7} {word : Fin 8}
    (at_ : x.addr.toNat = 0x100 + 0x20 * b.toNat + 4 * word.val) (axes : c.nAxis ≤ 6) :
    c.Accessible x ↔ x.width = .word ∧ b.toNat < c.nBlk ∧ word.val < 2 + c.nAxis := by
  have := word.isLt
  obtain ⟨unreadable, unwritable⟩ := not_mem_scalars_of_array (a := x.addr.toNat) (by omega)
  have exists_ : c.poolWordAddr x.addr.toNat ↔ b.toNat < c.nBlk ∧ word.val < 2 + c.nAxis := by
    unfold Config.poolWordAddr
    omega
  refine and_congr_right fun _ => ?_
  split
  · simp only [Config.Writable, unwritable, exists_, false_or]
  · simp only [Config.Readable, unreadable, exists_, false_or]
    omega

/-- In a gap of the map nothing is legal. -/
theorem not_accessible_of_gap {c : Config} {x : HostTxn} (none : ∀ row ∈ scalarRows, row.addr ≠ x.addr)
    (low : x.addr.toNat < 0x100) (notPos : ¬ (0x040 ≤ x.addr.toNat ∧ x.addr.toNat < 0x060)) (axes : c.nAxis ≤ 6) :
    ¬ c.Accessible x := by
  have unlisted : x.addr.toNat ∉ readableScalars ++ writableScalars := by
    intro listed
    obtain ⟨row, mem, same⟩ := scalarRows_complete _ listed
    exact none row mem (BitVec.eq_of_toNat_eq same)
  rw [List.mem_append, not_or] at unlisted
  rintro ⟨-, direction⟩
  split at direction
  · rcases direction with listed | pool
    · exact unlisted.2 listed
    · omega
  · rcases direction with listed | pos | pool
    · exact unlisted.1 listed
    · omega
    · omega

/-- A legal access runs an instruction that never newly raises `ERR_BUS`; any other transaction is refused. -/
def HostOutcome (x : HostTxn) (s : State) : Prop :=
  (s.cfg.Accessible x ∧ ∃ t, hostStep x s = .next t ∧ (t.flags.errBus = true → s.flags.errBus = true)) ∨
    (¬ s.cfg.Accessible x ∧ hostStep x s = .next (s.busError x.we))

/-- At a pool word. -/
theorem hostOutcome_pool {x : HostTxn} {s : State} {b : BitVec 7} {k : Fin 8} (word : x.width = .word)
    (at_ : x.addr.toNat = 0x100 + 0x20 * b.toNat + 4 * k.val) (axes : s.cfg.nAxis ≤ 6) : HostOutcome x s := by
  have run := hostStep_of_decode word (decodeMmio_pool at_ x.we x.data) s
  rw [HostOutcome, accessible_pool_iff at_ axes, ← State.hasPoolWord_iff]
  by_cases exists_ : s.hasPoolWord b k.val = true
  · refine .inl ⟨⟨word, exists_⟩, ?_⟩
    cases direction : x.we <;> rw [direction] at run
    · rw [run, exec_poolInstr_read, State.ldwPool, if_pos exists_]
      exact ⟨_, rfl, id⟩
    · rw [run, exec_poolInstr_write, State.stwPool, if_pos exists_]
      exact ⟨_, rfl, id⟩
  · refine .inr ⟨fun accessible => exists_ accessible.2, ?_⟩
    cases direction : x.we <;> rw [direction] at run
    · rw [run, exec_poolInstr_read, State.ldwPool, if_neg exists_]
    · rw [run, exec_poolInstr_write, State.stwPool, if_neg exists_]

/-- At a position register. -/
theorem hostOutcome_pos {x : HostTxn} {s : State} {i : BitVec 3} (word : x.width = .word)
    (at_ : x.addr.toNat = 0x040 + 4 * i.toNat) (axes : s.cfg.nAxis ≤ 6) : HostOutcome x s := by
  have dec := decodeMmio_pos at_ x.we x.data
  rw [HostOutcome, accessible_pos_iff at_]
  cases direction : x.we
  case true =>
    rw [direction, if_pos rfl, ← direction] at dec
    exact .inr ⟨by simp, hostStep_of_error (hostInstr_of_decode_error word dec) s ▸ by rw [direction]⟩
  case false =>
    rw [direction, if_neg Bool.false_ne_true, ← direction] at dec
    have run := hostStep_of_decode word dec s
    by_cases inside : i.toNat < s.cfg.nAxis
    · refine .inl ⟨⟨word, rfl, inside⟩, ?_⟩
      rw [run, exec_ldwPos_of_lt (a := ⟨i.toNat, by omega⟩) rfl inside]
      exact ⟨_, rfl, id⟩
    · exact .inr ⟨fun accessible => inside accessible.2.2, by rw [run, exec_ldwPos_of_ge (not_lt.1 inside)]⟩

/-- Every transaction, by the place its address leads to. -/
theorem hostOutcome {s : State} (legal : s.cfg.legal = true) (x : HostTxn) : HostOutcome x s := by
  have axes := ((Config.legal_iff s.cfg).1 legal).1.2
  by_cases word : x.width = .word
  case neg =>
    have narrow : hostInstr x = .error .narrow := if_neg word
    exact .inr ⟨fun accessible => word accessible.1, hostStep_of_error narrow s⟩
  have refused := fun {e} (dec : decodeMmio x.we x.addr x.data = .error e) =>
    hostStep_of_error (hostInstr_of_decode_error word dec) s
  rcases decodeMmio_cases x.we x.addr x.data with
    ⟨odd, dec⟩ | ⟨row, mem, at_, dec⟩ | ⟨i, at_⟩ | ⟨b, k, at_⟩ | ⟨none, low, notPos, dec⟩
  · exact .inr ⟨not_accessible_of_misaligned odd, refused dec⟩
  · rw [HostOutcome, accessible_scalar_iff mem at_ axes]
    cases access : row.access x.we x.data with
    | ok i =>
      rw [access] at dec
      refine .inl ⟨⟨word, i, rfl⟩, ?_⟩
      rw [hostStep_of_decode word dec]
      exact exec_scalar_errBus mem access s
    | error e =>
      rw [access] at dec
      exact .inr ⟨by simp, refused dec⟩
  · exact hostOutcome_pos word at_ axes
  · exact hostOutcome_pool word at_ axes
  · exact .inr ⟨not_accessible_of_gap none low notPos axes, refused dec⟩

/-- Settles O12. -/
theorem illegalAccessRefused : Obligations.IllegalAccessRefused := by
  intro s x rest legal input illegal
  rw [step_host legal input]
  rcases hostOutcome (s := { s with inputs := rest }) legal x with ⟨accessible, -⟩ | ⟨-, refused⟩
  · exact absurd accessible illegal
  · rw [refused]
    cases x.we <;> rfl

/-- Settles O13. -/
theorem legalAccessNeverRaisesErrBus : Obligations.LegalAccessNeverRaisesErrBus := by
  intro s x rest legal input accessible
  rw [step_host legal input]
  rcases hostOutcome (s := { s with inputs := rest }) legal x with ⟨-, outcome⟩ | ⟨illegal, -⟩
  · exact outcome
  · exact absurd accessible illegal

end Machine
end Sys2Proof
end

section
/-! PROOFS. The families of 10_state: the register views bit by bit, the settings, and the segment window. -/

namespace Sys2Proof.Machine

/-! ## Register words bit by bit -/

/-- A word with one bit at `k`. -/
theorem bitAt_getLsbD (b : Bool) {k : Nat} (inWord : k < 32) (j : Nat) :
    (bitAt b k).getLsbD j = (decide (j = k) && b) := by
  unfold bitAt
  by_cases same : j = k
  · simp [same, inWord]
  · by_cases above : k < j
    · simp [same, show j - k ≠ 0 by omega]
    · simp [same, show j < k by omega]

/-- An axis mask as a register word. -/
theorem zeroExtend_getLsbD (m : AxisBits) (k : Nat) : (m.zeroExtend 32).getLsbD k = m.getLsbD k := by
  by_cases inside : k < 6
  · simp [show k < 32 by omega]
  · simp [BitVec.getLsbD_of_ge m k (by omega)]

/-- An axis mask in bits 8 and up of a register word. -/
theorem zeroExtend_shift_getLsbD (m : AxisBits) (k : Nat) :
    (m.zeroExtend 32 <<< 8).getLsbD k = (decide (8 ≤ k) && m.getLsbD (k - 8)) := by
  rw [BitVec.getLsbD_shiftLeft, zeroExtend_getLsbD]
  by_cases inside : k < 32
  · by_cases low : k < 8
    · simp [low]
    · simp [inside, low, not_lt.1 low]
  · simp [BitVec.getLsbD_of_ge m (k - 8) (by omega)]

/-- A word's bits of the existing axes, from bit `n` on, as a mask. -/
theorem storedAxes_getLsbD {c : Config} (legal : c.legal = true) (d : Word) (n k : Nat) :
    (d.extractLsb' n 6 &&& c.axisMask).getLsbD k = (decide (k < c.nAxis) && d.getLsbD (n + k)) := by
  have axes := ((Config.legal_iff c).1 legal).1
  rw [BitVec.getLsbD_and, Config.axisMask_getLsbD_of_legal legal, BitVec.getLsbD_extractLsb']
  by_cases inside : k < c.nAxis
  · simp [inside, show k < 6 by omega]
  · simp [inside]

/-! ## Views (10_state R35, R36, R48 to R51) -/

/-- Settles O1: `STATUS` has one bit per view, and `EMPTY` and `FULL` are relations of the indices. -/
theorem statusReadsItsView : Obligations.StatusReadsItsView := by
  intro s legal
  have empty : s.isEmpty = decide (s.head = s.tail) := rfl
  have full : s.isFull = decide (s.tail.toNat = (s.head.toNat + 1) % s.cfg.nSeg) := by
    rw [Bool.eq_iff_iff, State.isFull_iff legal, decide_eq_true_iff, eq_comm]
  refine ⟨s.statusWord, rfl, ?_, ?_, ?_, ?_, ?_, ?_, ?_⟩
  case refine_7 =>
    intro k high
    simp (disch := decide) only [State.statusWord, BitVec.getLsbD_or, bitAt_getLsbD]
    simp
    omega
  all_goals
    simp (disch := decide) only [State.statusWord, BitVec.getLsbD_or, bitAt_getLsbD, empty, full]
    simp

/-- Settles O2: `FLAGS` has one bit per cause; the write clears a bit by the written word's bit of the same code. -/
theorem flagsReadAndWriteOneToClear : Obligations.FlagsReadAndWriteOneToClear := by
  intro s d
  refine ⟨⟨s.flags.word, rfl, ?_, ?_, ?_, ?_, ?_, ?_⟩, s.flags.clear d, rfl, rfl, rfl, rfl, rfl, rfl⟩
  case refine_6 =>
    intro k h0 h1 h2 h3 h8
    simp (disch := decide) only [FlagBits.word, BitVec.getLsbD_or, bitAt_getLsbD]
    simp [h0, h1, h2, h3, h8]
  all_goals
    simp (disch := decide) only [FlagBits.word, BitVec.getLsbD_or, bitAt_getLsbD]
    simp

/-- The `PINS` word, bit by bit (10_state R50). -/
theorem State.pinsWord_getLsbD (s : State) (k : Nat) :
    s.pinsWord.getLsbD k =
      (s.lines.step.getLsbD k || (decide (8 ≤ k) && s.lines.dir.getLsbD (k - 8)) || (decide (k = 16) && s.lines.en) ||
        (decide (k = 17) && s.lines.pinsDriven)) := by
  simp (disch := decide) only [State.pinsWord, BitVec.getLsbD_or, bitAt_getLsbD, zeroExtend_getLsbD,
    zeroExtend_shift_getLsbD]

/-- Settles O5: a zero-extended register is the number it holds; `PINS` by its word. -/
theorem readOnlyViewsRead : Obligations.ReadOnlyViewsRead := by
  intro s
  have view : ∀ {w : Nat} (v : BitVec w),
      s.hostReturn (v.zeroExtend 32) = { s with hostResult := BitVec.ofNat 32 v.toNat } :=
    fun v => congrArg (fun r => s.hostReturn r) (BitVec.ofNat_toNat 32 v).symm
  have absent : ∀ (m : AxisBits) {k : Nat}, 6 ≤ k → m.getLsbD k = false := fun m k => BitVec.getLsbD_of_ge m k
  refine ⟨congrArg _ (view _), congrArg _ (view _), congrArg _ (view _), congrArg _ (view _), congrArg _ (view _),
    congrArg _ (view _), s.pinsWord, rfl, ?axes, ?_, ?_, ?_, ?_, ?_, ?_, ?above⟩
  case axes =>
    intro i
    have := i.isLt
    constructor
    · rw [State.pinsWord_getLsbD]
      simp [AxisBits.bit, show ¬ 8 ≤ i.val by omega, show i.val ≠ 16 by omega, show i.val ≠ 17 by omega]
    · rw [State.pinsWord_getLsbD, absent s.lines.step (by omega)]
      simp [AxisBits.bit, show 8 + i.val ≠ 16 by omega, show 8 + i.val ≠ 17 by omega]
  case above =>
    intro k high
    rw [State.pinsWord_getLsbD, absent s.lines.step (by omega), absent s.lines.dir (by omega)]
    simp
    omega
  all_goals
    rw [State.pinsWord_getLsbD]
    simp

/-! ## Settings (10_state R43 to R47) -/

/-- Settles O6. -/
theorem invertSettingsReadBack : Obligations.InvertSettingsReadBack := by
  intro s d legal
  have bits : ∀ k, ((d.extractLsb' 0 6 &&& s.cfg.axisMask).zeroExtend 32).getLsbD k =
      (decide (k < s.cfg.nAxis) && d.getLsbD k) := by
    intro k
    rw [zeroExtend_getLsbD, storedAxes_getLsbD legal, Nat.zero_add]
  exact ⟨⟨_, _, rfl, rfl, rfl, bits⟩, ⟨_, _, rfl, rfl, rfl, bits⟩⟩

/-- Settles O7. -/
theorem systemSettingsReadBack : Obligations.SystemSettingsReadBack := by
  intro s d legal
  refine ⟨⟨_, _, rfl, rfl, rfl, ?flags⟩, ⟨_, _, rfl, rfl, rfl, ?idleLock⟩, ⟨_, _, rfl, rfl, rfl, ?sysctl⟩⟩
  case flags =>
    intro k
    simp (disch := decide) only [State.setFlagsWord, BitVec.getLsbD_or, bitAt_getLsbD]
    grind
  case idleLock =>
    intro k
    simp
    grind
  case sysctl =>
    intro k
    simp (disch := decide) only [State.sysctlWord, BitVec.getLsbD_or, bitAt_getLsbD, zeroExtend_shift_getLsbD,
      storedAxes_getLsbD legal]
    grind

/-! ## The segment window (10_state R54) -/

/-- The reserved bits 15..13 are not among the stored bits of `SEGW1`. -/
theorem segw1Mask_reserved : segw1Mask.getLsbD 13 = false ∧ segw1Mask.getLsbD 14 = false ∧
    segw1Mask.getLsbD 15 = false := by
  decide

/-- The reserved bits of a segment's upper word play no part in decoding it (30_encoding R106). -/
theorem decodeSegment_segw1Mask (d0 d1 : Word) :
    decodeSegment ((d1 &&& segw1Mask) ++ d0) = decodeSegment (d1 ++ d0) := by
  have masked : (d1 &&& segw1Mask) ++ d0 = (d1 ++ d0) &&& 0xFFFF1FFFFFFFFFFF#64 := by
    rw [show 0xFFFF1FFFFFFFFFFF#64 = segw1Mask ++ BitVec.allOnes 32 from rfl, BitVec.and_append, BitVec.and_allOnes]
  rw [masked, ← encodeSegment_decodeSegment, decodeSegment_encodeSegment]

/-- What the window shows after a write of its lower word. -/
theorem State.segW0_setSegW0 (d : Word) (s : State) : (s.setSegW0 d).segW0 s.head = d :=
  Memory.readWord_writeWord_same _ _ _ _

/-- A write of the window's upper word leaves its lower word. -/
theorem State.segW0_setSegW1 (d : Word) (s : State) : (s.setSegW1 d).segW0 s.head = s.segW0 s.head :=
  State.ringWord_setSegW1_other d s (.inl le_rfl)

/-- What the window shows after a write of its upper word: the stored bits. -/
theorem State.segW1_setSegW1 (d : Word) (s : State) : (s.setSegW1 d).segW1 s.head = d &&& segw1Mask := by
  have stored : (s.setSegW1 d).ringWord (8 * s.head.toNat + 4) = d &&& segw1Mask :=
    Memory.readWord_writeWord_same _ _ _ _
  rw [State.segW1, stored, BitVec.and_assoc, BitVec.and_self]

/-- Settles O8. -/
theorem segmentWindowReadsBack : Obligations.SegmentWindowReadsBack := by
  constructor
  · intro s
    refine ⟨⟨_, rfl, rfl⟩, ⟨_, rfl, rfl, ?_, ?_, ?_⟩⟩
    all_goals
      rw [State.segW1, BitVec.getLsbD_and]
      simp only [segw1Mask_reserved, Bool.and_false]
  · intro s d0 d1
    have lower : ((s.setSegW0 d0).setSegW1 d1).segW0 s.head = d0 :=
      (State.segW0_setSegW1 d1 (s.setSegW0 d0)).trans (State.segW0_setSegW0 d0 s)
    have upper : ((s.setSegW0 d0).setSegW1 d1).segW1 s.head = d1 &&& segw1Mask :=
      State.segW1_setSegW1 d1 (s.setSegW0 d0)
    refine ⟨s.setSegW0 d0, (s.setSegW0 d0).setSegW1 d1, rfl, rfl, ?_, ?_, rfl, rfl, ?_, ?_, ?_⟩
    · exact congrArg (fun v => Host.Outcome.next (((s.setSegW0 d0).setSegW1 d1).hostReturn v)) lower
    · exact congrArg (fun v => Host.Outcome.next (((s.setSegW0 d0).setSegW1 d1).hostReturn v)) upper
    · rw [State.segment, State.segWord, lower, upper, decodeSegment_segw1Mask]
    · intro a outside
      exact Memory.read_writeWord_other _ _ outside
    · intro a outside
      exact Memory.read_writeWord_other _ _ (by simpa using outside)

end Sys2Proof.Machine
end

section
/-! PROOFS. What an instruction and a step can do, by kind, and who writes which part of the state (10_state R20, R28,
R30, R35, R38, R51, 00_scope R5, R14, 42_pulse_reset_and_timer R212, R219, R223). -/

namespace Sys2Proof.Machine

/-! ## The kinds of instruction -/

/-- A host access that is no command: a refused write to `CMD`, a read, a refused access, a write-one-to-clear of
`FLAGS`, a write of the segment window, of an existing pool word, of a settings register or of `SYSCTL`. -/
inductive RegisterAccess (i : Instr) (s : State) : State → Prop where
  | badCommand : RegisterAccess i s (s.refuse .errCmd)
  | read (v : Word) : RegisterAccess i s (s.hostReturn v)
  | refused (we : Bool) : RegisterAccess i s (s.busError we)
  | clearFlags (d : Word) (write : i = .stwFlags d) : RegisterAccess i s (s.clearFlags d)
  | segW0 (d : Word) : RegisterAccess i s (s.setSegW0 d)
  | segW1 (d : Word) : RegisterAccess i s (s.setSegW1 d)
  | poolWord (b : BitVec 7) (word : Nat) (d : Word) (exists_ : s.hasPoolWord b word = true) :
      RegisterAccess i s (s.setPoolWord b word d)
  | settings {t : State} (write : SettingsWrite s t) : RegisterAccess i s t
  | sysctl (homing probe : Bool) (lock : AxisBits) :
      RegisterAccess i s { s with sysctl := ⟨homing, probe, lock &&& s.cfg.axisMask⟩ }

/-- The part of the state no register access changes. -/
structure RegisterFrame (s t : State) : Prop where
  cfg : t.cfg = s.cfg
  exec : t.exec = s.exec
  head : t.head = s.head
  tail : t.tail = s.tail
  sysPosition : t.sysPosition = s.sysPosition
  epoch : t.epoch = s.epoch
  stepInv : t.stepInv = s.stepInv
  dirInv : t.dirInv = s.dirInv
  timer : t.timer = s.timer
  lines : t.lines = s.lines
  spindlePwmOut : t.spindlePwmOut = s.spindlePwmOut
  inputs : t.inputs = s.inputs
  time : t.time = s.time
  trace : t.trace = s.trace

theorem RegisterAccess.frame {i : Instr} {s t : State} (access : RegisterAccess i s t) : RegisterFrame s t := by
  cases access with
  | refused we => cases we <;> constructor <;> rfl
  | settings write => rw [write.state]; constructor <;> rfl
  | _ => constructor <;> rfl

/-- What an instruction does, by its kind: a tick of a segment, the handler, the pulse reset, a command by either
spelling, or a register access. -/
theorem exec_kinds {i : Instr} {s t : State} (h : exec i s = .next t) :
    (∃ f, i = .seg f ∧ t = s.segmentTick f) ∨ (i = .tick ∧ t = s.tickHandler) ∨ (i = .preset ∧ t = s.idleSteps) ∨
    (∃ c : Command, (i = c.toInstr ∨ i = .stwCmd (encodeCommand c)) ∧ CommandOutcome s c t) ∨
    RegisterAccess i s t := by
  rcases exec_cases h with segment | handler | preset | ⟨c, spelling, effect⟩ | access
  · exact .inl segment
  · exact .inr (.inl handler)
  · exact .inr (.inr (.inl preset))
  · refine .inr (.inr (.inr (.inl ⟨c, ?_, effect ▸ commandOutcome c s⟩)))
    rcases spelling with own | ⟨d, write, command⟩
    · exact .inl own
    · exact .inr (eq_encodeCommand_of_decodeCommand command ▸ write)
  · refine .inr (.inr (.inr (.inr ?_)))
    rcases access with ⟨d, -, -, rfl⟩ | ⟨v, rfl⟩ | ⟨we, rfl⟩ | ⟨d, write, rfl⟩ | ⟨d, -, rfl⟩ | ⟨d, -, rfl⟩ |
      ⟨b, word, d, exists_, rfl⟩ | write | ⟨homing, probe, lock, rfl⟩
    · exact .badCommand
    · exact .read v
    · exact .refused we
    · exact .clearFlags d write
    · exact .segW0 d
    · exact .segW1 d
    · exact .poolWord b word d exists_
    · exact .settings write
    · exact .sysctl homing probe lock

/-! ## Positions, ExecState and lines: who writes them -/

/-- No command moves an axis or writes the spindle value. -/
theorem CommandOutcome.position_spindle {s t : State} {c : Command} (outcome : CommandOutcome s c t) :
    t.sysPosition = s.sysPosition ∧ t.spindlePwmOut = s.spindlePwmOut := by
  cases outcome with
  | disable ovr => simp
  | _ => exact ⟨rfl, rfl⟩

/-- No command but `RESET` changes ExecState or `tail`. -/
theorem CommandOutcome.exec_tail {s t : State} {c : Command} (outcome : CommandOutcome s c t)
    (noReset : c ≠ .reset) : t.exec = s.exec ∧ t.tail = s.tail := by
  cases outcome with
  | disable ovr => simp
  | reset => exact absurd rfl noReset
  | _ => exact ⟨rfl, rfl⟩

/-- Who of the commands drives which line. -/
theorem CommandOutcome.lines {s t : State} {c : Command} (outcome : CommandOutcome s c t) :
    (c ≠ .reset → t.lines.dir = s.lines.dir) ∧
      (c ≠ .wake → (∀ o, c ≠ .disable o) → t.lines.en = s.lines.en ∧ t.lines.drvEnabled = s.lines.drvEnabled) ∧
      (c ≠ .init → t.lines.pinsDriven = s.lines.pinsDriven) := by
  cases outcome with
  | init => exact ⟨fun _ => rfl, fun _ _ => ⟨rfl, rfl⟩, fun other => absurd rfl other⟩
  | wake => exact ⟨fun _ => rfl, fun other => absurd rfl other, fun _ => rfl⟩
  | disable ovr =>
    rw [State.disableSeq_eq]
    exact ⟨fun _ => rfl, fun _ other => absurd rfl (other ovr), fun _ => rfl⟩
  | reset => exact ⟨fun other => absurd rfl other, fun _ _ => ⟨rfl, rfl⟩, fun _ => rfl⟩
  | _ => exact ⟨fun _ => rfl, fun _ _ => ⟨rfl, rfl⟩, fun _ => rfl⟩

/-- Settles O38, by the kind of instruction. -/
theorem onlyTheEngineMovesPositions : Obligations.OnlyTheEngineMovesPositions := by
  intro i s t h notTick notSeg
  rcases exec_kinds h with ⟨f, seg, -⟩ | ⟨tick, -⟩ | ⟨-, rfl⟩ | ⟨c, -, outcome⟩ | access
  · exact absurd seg (notSeg f)
  · exact absurd tick notTick
  · exact ⟨rfl, rfl⟩
  · exact outcome.position_spindle
  · exact ⟨access.frame.sysPosition, access.frame.spindlePwmOut⟩

/-- A command instruction that is neither spelling of `k` is another command. -/
theorem command_ne {i : Instr} {c k : Command} (spelling : i = c.toInstr ∨ i = .stwCmd (encodeCommand c))
    (own : i ≠ k.toInstr) (write : i ≠ .stwCmd (encodeCommand k)) : c ≠ k := by
  rintro rfl
  exact spelling.elim own write

/-- Settles O39, by the kind of instruction. -/
theorem execStateIsPrivate : Obligations.ExecStateIsPrivate := by
  intro i s t h notTick notSeg notReset notResetWord
  rcases exec_kinds h with ⟨f, seg, -⟩ | ⟨tick, -⟩ | ⟨-, rfl⟩ | ⟨c, spelling, outcome⟩ | access
  · exact absurd seg (notSeg f)
  · exact absurd tick notTick
  · exact ⟨rfl, rfl⟩
  · exact outcome.exec_tail (command_ne (k := .reset) spelling notReset notResetWord)
  · exact ⟨access.frame.exec, access.frame.tail⟩

/-- A tick of a segment drives STEP and DIR lines only. -/
theorem State.segmentTick_lines (f : Segment) (s : State) :
    (s.segmentTick f).lines =
      { s.lines with step := (s.segmentTick f).lines.step, dir := (s.segmentTick f).lines.dir } := by
  rcases State.segmentTick_cases f s with ⟨-, tick⟩ | ⟨-, -, tick⟩ | ⟨-, -, tick⟩ <;> rw [tick]
  · rw [State.runSegment_lines]
    rfl
  · rw [State.takeFault_eq]
    rfl
  · rw [State.runSegment_lines, State.loadSegment_lines]
    split <;> rfl

/-- The handler drives STEP and DIR lines only, but for the enable line on an empty ring. -/
theorem State.tickHandler_lines (s : State) :
    (s.tickHandler).lines.pinsDriven = s.lines.pinsDriven ∧
      (¬ (s.exec.segValid = false ∧ s.head = s.tail) →
        s.tickHandler.lines.en = s.lines.en ∧ s.tickHandler.lines.drvEnabled = s.lines.drvEnabled) := by
  rcases State.tickHandler_cases s with ⟨-, tick⟩ | ⟨idle, empty, tick⟩ <;> rw [tick]
  · rw [State.segmentTick_lines]
    exact ⟨rfl, fun _ => ⟨rfl, rfl⟩⟩
  · rw [State.shutdown_eq, State.disableSeq_eq]
    exact ⟨rfl, fun busy => absurd ⟨idle, empty⟩ busy⟩

/-- Settles O40, by the kind of instruction. -/
theorem linesHaveTheirWriters : Obligations.LinesHaveTheirWriters := by
  intro i s t h
  rcases exec_kinds h with ⟨f, rfl, rfl⟩ | ⟨rfl, rfl⟩ | ⟨-, rfl⟩ | ⟨c, spelling, outcome⟩ | access
  · rw [State.segmentTick_lines]
    exact ⟨fun other => absurd rfl (other.2.1 f), fun _ => ⟨rfl, rfl⟩, fun _ => rfl⟩
  · obtain ⟨pins, enable⟩ := s.tickHandler_lines
    refine ⟨fun other => absurd rfl other.1, ?_, fun _ => pins⟩
    rintro ⟨-, -, -, -, -, busy⟩
    exact enable fun idle => busy ⟨rfl, idle⟩
  · exact ⟨fun _ => rfl, fun _ => ⟨rfl, rfl⟩, fun _ => rfl⟩
  · obtain ⟨dir, enable, pins⟩ := outcome.lines
    refine ⟨?_, ?_, ?_⟩
    · rintro ⟨-, -, own, word⟩
      exact dir (command_ne (k := .reset) spelling own word)
    · rintro ⟨wake, disable, wakeWord, keepWord, forceWord, -⟩
      refine enable (command_ne (k := .wake) spelling wake wakeWord) fun o => ?_
      exact command_ne spelling (disable o) (by cases o <;> assumption)
    · rintro ⟨own, word⟩
      exact pins (command_ne (k := .init) spelling own word)
  · rw [access.frame.lines]
    exact ⟨fun _ => rfl, fun _ => ⟨rfl, rfl⟩, fun _ => rfl⟩

/-! ## The trace (00_scope R14) -/

/-- From `s` to `t` time goes on and the trace gets further entries, in time order between the two. -/
def TraceGrows (s t : State) : Prop :=
  s.time ≤ t.time ∧
    ∃ es : List TraceEntry, t.trace = s.trace ++ es ∧ (∀ e ∈ es, s.time ≤ e.time ∧ e.time ≤ t.time) ∧
      es.Pairwise fun x y => x.time ≤ y.time

/-- What keeps time and trace adds no entry. -/
theorem TraceGrows.of_eq {s t : State} (time : t.time = s.time) (trace : t.trace = s.trace) : TraceGrows s t :=
  ⟨time.ge, [], by simp [trace], by simp, .nil⟩

/-- Only time and trace matter to the growth of the trace. -/
theorem TraceGrows.congr {s t u : State} (grows : TraceGrows s t) (time : u.time = t.time) (trace : u.trace = t.trace) :
    TraceGrows s u := by
  unfold TraceGrows
  rw [time, trace]
  exact grows

theorem TraceGrows.trans {s t u : State} (first : TraceGrows s t) (second : TraceGrows t u) : TraceGrows s u := by
  obtain ⟨time, es, trace, between, sorted⟩ := first
  obtain ⟨time', fs, trace', between', sorted'⟩ := second
  refine ⟨time.trans time', es ++ fs, by rw [trace', trace, List.append_assoc], ?_, ?_⟩
  · intro e mem
    rcases List.mem_append.1 mem with early | late
    · exact ⟨(between e early).1, (between e early).2.trans time'⟩
    · exact ⟨time.trans (between' e late).1, (between' e late).2⟩
  · rw [List.pairwise_append]
    exact ⟨sorted, sorted', fun x early y late => (between x early).2.trans (between' y late).1⟩

/-- Events emitted at one time are in time order. -/
theorem State.emitAll_grows (es : List OutEvent) (s : State) : TraceGrows s (s.emitAll es) := by
  refine ⟨le_rfl, es.map fun e => ⟨s.time, e⟩, rfl, ?_, List.pairwise_map.2 (List.pairwise_of_forall fun _ _ => le_rfl)⟩
  intro e mem
  obtain ⟨x, -, rfl⟩ := List.mem_map.1 mem
  exact ⟨le_rfl, le_rfl⟩

theorem State.wait_grows (clocks : Nat) (s : State) : TraceGrows s (s.wait clocks) :=
  ⟨Nat.le_add_right _ _, [], by simp, by simp, .nil⟩

/-- Driving the STEP lines emits its edges at one time. -/
theorem State.driveSteps_grows (target : AxisBits) (s : State) : TraceGrows s (s.driveSteps target) :=
  (s.emitAll_grows _).congr rfl rfl

theorem State.disableSeq_grows (ovr : Bool) (s : State) : TraceGrows s (s.disableSeq ovr) := by
  have idle : TraceGrows s s.stopTimer.idleSteps := (s.driveSteps_grows s.stepInv).congr rfl rfl
  have enable : ∀ (dis : Bool) (t : State), TraceGrows t (t.driveEnable dis) :=
    fun dis t => (t.emitAll_grows [.enSet (dis ^^ t.settings.invertStEnable)]).congr rfl rfl
  unfold State.disableSeq
  dsimp only
  split
  · exact (idle.trans (State.wait_grows _ _)).trans (enable _ _)
  · exact idle.trans (enable _ _)

theorem State.takeFault_grows (s : State) : TraceGrows s s.takeFault :=
  ((s.wait_grows s.lastPulseClocks).trans ((s.wait s.lastPulseClocks).driveSteps_grows s.stepInv)).congr rfl rfl

theorem State.loadSegment_grows (f : Segment) (s : State) : TraceGrows s (s.loadSegment f) :=
  (s.emitAll_grows _).congr (State.loadSegment_time f s) (State.loadSegment_trace f s)

theorem State.runSegment_grows (f : Segment) (s : State) : TraceGrows s (s.runSegment f) := by
  have trace := State.runSegment_trace f s
  split at trace
  · exact (s.emitAll_grows [.probePoll]).congr (State.runSegment_time f s) trace
  · exact .of_eq (State.runSegment_time f s) trace

theorem State.phaseA_grows (s : State) : TraceGrows s s.phaseA :=
  (s.driveSteps_grows _).congr rfl rfl

theorem State.segmentTick_grows (f : Segment) (s : State) : TraceGrows s (s.segmentTick f) := by
  rcases State.segmentTick_cases f s with ⟨-, tick⟩ | ⟨-, -, tick⟩ | ⟨-, -, tick⟩ <;> rw [tick]
  · exact s.phaseA_grows.trans (State.runSegment_grows f _)
  · exact s.phaseA_grows.trans (State.takeFault_grows _)
  · exact s.phaseA_grows.trans ((State.loadSegment_grows f _).trans (State.runSegment_grows f _))

theorem State.shutdown_grows (s : State) : TraceGrows s s.shutdown := by
  rw [State.shutdown_eq]
  exact (((s.wait_grows _).trans (State.disableSeq_grows false _)).trans (State.emitAll_grows _ _)).congr rfl rfl

theorem State.tickHandler_grows (s : State) : TraceGrows s s.tickHandler := by
  rcases State.tickHandler_cases s with ⟨-, tick⟩ | ⟨-, -, tick⟩ <;> rw [tick]
  · exact State.segmentTick_grows _ s
  · exact s.phaseA_grows.trans (State.shutdown_grows _)

theorem CommandOutcome.grows {s t : State} {c : Command} (outcome : CommandOutcome s c t) : TraceGrows s t := by
  cases outcome with
  | wake =>
    have enable : TraceGrows s (s.emit (.enSet s.settings.invertStEnable)) := s.emitAll_grows _
    cases running : s.timer.run
    · exact (enable.trans (State.wait_grows s.cfg.tWake _)).congr rfl rfl
    · exact enable.congr rfl rfl
  | disable ovr => exact s.disableSeq_grows ovr
  | reset => exact (s.genMasks.emitAll_grows _).congr rfl rfl
  | _ => exact .of_eq rfl rfl

/-- Settles O41, by the kind of instruction. -/
theorem traceOnlyGrows : Obligations.TraceOnlyGrows := by
  intro i s t h
  rcases exec_kinds h with ⟨f, -, rfl⟩ | ⟨-, rfl⟩ | ⟨-, rfl⟩ | ⟨c, -, outcome⟩ | access
  · exact s.segmentTick_grows f
  · exact s.tickHandler_grows
  · exact s.driveSteps_grows s.stepInv
  · exact outcome.grows
  · exact TraceGrows.of_eq access.frame.time access.frame.trace

/-! ## The kinds of step -/

/-- Only a write at 0x000 decodes to `STW.CMD`. -/
theorem of_decode_stwCmd {we : Bool} {addr : BitVec 12} {d w : Word}
    (dec : decode (.mmio we addr d) = .ok (.stwCmd w)) :
    we = true ∧ addr = 0x000 ∧ d = w := by
  have own := (encode_of_decodeMmio dec).2
  simp only [encode, Option.some.injEq, Encoded.mmio.injEq] at own
  obtain ⟨write, zero, data⟩ := own
  rw [← write, if_pos rfl] at data
  exact ⟨write.symm, zero.symm, data.symm⟩

/-- A transaction's instruction: a command word's own command, or the instruction whose word the transaction is. -/
theorem hostInstr_ok {x : HostTxn} {i : Instr} (h : hostInstr x = .ok i) :
    (∃ c : Command, x = ⟨true, 0x000, encodeCommand c, .word⟩ ∧ i = c.toInstr) ∨
      (x.width = .word ∧ encode i = some (.mmio x.we x.addr (if x.we then x.data else 0))) := by
  obtain ⟨we, addr, d, width⟩ := x
  unfold hostInstr at h
  split at h
  case isFalse => cases h
  case isTrue word =>
    cases dec : decode (.mmio we addr d) with
    | error e => simp [dec] at h
    | ok j =>
      have own := (encode_of_decodeMmio dec).2
      rw [dec] at h
      split at h
      case h_1 w write =>
        cases write
        obtain ⟨rfl, rfl, rfl⟩ := of_decode_stwCmd dec
        cases command : decodeCommand d with
        | some c =>
          simp only [decode, command, Except.ok.injEq] at h
          rw [eq_encodeCommand_of_decodeCommand command]
          exact .inl ⟨c, congrArg (HostTxn.mk true 0 (encodeCommand c)) word, h.symm⟩
        | none =>
          simp only [decode, command, Except.ok.injEq] at h
          exact .inr ⟨word, h ▸ own⟩
      case h_2 =>
        cases h
        exact .inr ⟨word, own⟩

/-- A transaction whose word is that of a write is that write. -/
theorem txn_eq_of_write {x : HostTxn} {addr : BitVec 12} {d : Word} (width : x.width = .word)
    (own : some (Encoded.mmio true addr d) = some (.mmio x.we x.addr (if x.we then x.data else 0))) :
    x = ⟨true, addr, d, .word⟩ := by
  simp only [Option.some.injEq, Encoded.mmio.injEq] at own
  obtain ⟨write, rfl, data⟩ := own
  rw [← write, if_pos rfl] at data
  rw [data, write, ← width]

/-- What a host transaction leads to: a command of `CMD`, or a register access. -/
theorem hostStep_kinds {x : HostTxn} {s t : State} (h : hostStep x s = .next t) :
    (∃ c : Command, x = ⟨true, 0x000, encodeCommand c, .word⟩ ∧ CommandOutcome s c t) ∨
      ∃ i, (∀ d, i = .stwFlags d → x = ⟨true, 0x008, d, .word⟩) ∧ RegisterAccess i s t := by
  cases instr : hostInstr x with
  | error e =>
    rw [hostStep_of_error instr] at h
    cases h
    exact .inr ⟨.ldwStatus, fun d other => (nomatch other), .refused x.we⟩
  | ok i =>
    simp only [hostStep, instr] at h
    rcases hostInstr_ok instr with ⟨c, word, rfl⟩ | ⟨width, own⟩
    · rw [exec_toInstr] at h
      cases h
      exact .inl ⟨c, word, commandOutcome c s⟩
    · rcases exec_kinds h with ⟨f, rfl, -⟩ | ⟨rfl, -⟩ | ⟨rfl, -⟩ | ⟨c, rfl | rfl, outcome⟩ | access
      · cases own
      · cases own
      · cases own
      · rw [(encode_toInstr c).2] at own
        cases own
      · exact .inl ⟨c, txn_eq_of_write width own, outcome⟩
      · refine .inr ⟨i, ?_, access⟩
        rintro d rfl
        exact txn_eq_of_write width own

/-- The state a step leads to, by the input it takes: a power-on, a command, a register access, or a timer clock, which
on a running timer is a tick, a pulse reset or a count (42_pulse_reset_and_timer R213). -/
inductive StepOutcome (s : State) : State → Prop where
  | powerOn (rest : List Input) (input : s.inputs = .powerOn :: rest) :
      StepOutcome s { State.powerOn s.cfg (s.epoch + 1) with inputs := rest }
  | command (c : Command) (rest : List Input) {t : State}
      (input : s.inputs = .host ⟨true, 0x000, encodeCommand c, .word⟩ :: rest)
      (outcome : CommandOutcome { s with inputs := rest } c t) : StepOutcome s t
  | access (x : HostTxn) (rest : List Input) (i : Instr) {t : State} (input : s.inputs = .host x :: rest)
      (word : ∀ d, i = .stwFlags d → x = ⟨true, 0x008, d, .word⟩)
      (access : RegisterAccess i { s with inputs := rest } t) : StepOutcome s t
  | stopped (rest : List Input) (stopped : s.timer.run = false) :
      StepOutcome s { s with inputs := rest, time := s.time + 1 }
  | tick (rest : List Input) (running : s.timer.run = true) (periodEnd : s.timer.tcnt + 1 = s.timer.arr) {u : State}
      (entry : u = { s with inputs := rest, time := s.time + 1, timer := { s.timer with tcnt := 0 } }) :
      StepOutcome s u.tickHandler
  | preset (rest : List Input) (running : s.timer.run = true) (inside : s.timer.tcnt + 1 ≠ s.timer.arr)
      (compare : s.timer.tcnt + 1 = s.timer.ccr) :
      StepOutcome s
        ({ s with
          inputs := rest, time := s.time + 1
          timer := { s.timer with tcnt := s.timer.tcnt + 1 } } : State).idleSteps
  | count (rest : List Input) (running : s.timer.run = true) (inside : s.timer.tcnt + 1 ≠ s.timer.arr)
      (between : s.timer.tcnt + 1 ≠ s.timer.ccr) :
      StepOutcome s
        { s with inputs := rest, time := s.time + 1, timer := { s.timer with tcnt := s.timer.tcnt + 1 } }

/-- Every step of a legal configuration leads to one of its outcomes. -/
theorem step_outcome {s t : State} (h : step s = .next t) : s.cfg.legal = true ∧ StepOutcome s t := by
  obtain ⟨legal, kind⟩ := step_cases h
  refine ⟨legal, ?_⟩
  have host : ∀ x rest, s.inputs = .host x :: rest → StepOutcome s t := by
    intro x rest input
    rw [step_host legal input] at h
    rcases hostStep_kinds h with ⟨c, rfl, outcome⟩ | ⟨i, word, access⟩
    · exact .command c rest input outcome
    · exact .access x rest i input word access
  rcases kind with ⟨rest, input, rfl⟩ | ⟨x, rest, -, input, -⟩ | ⟨x, rest, -, input, -⟩ | ⟨rest, -, clock⟩
  · exact .powerOn rest input
  · exact host x rest input
  · exact host x rest input
  · rcases clock with ⟨stopped, rfl⟩ | ⟨running, periodEnd, rfl⟩ | ⟨running, inside, compare, rfl⟩ |
      ⟨running, inside, between, rfl⟩
    · exact .stopped rest stopped
    · exact .tick rest running periodEnd rfl
    · exact .preset rest running inside compare
    · exact .count rest running inside between

/-! ## The configuration and the flags -/

theorem CommandOutcome.cfg {s t : State} {c : Command} (outcome : CommandOutcome s c t) : t.cfg = s.cfg := by
  cases outcome with
  | disable ovr => exact State.disableSeq_cfg ovr s
  | _ => rfl

/-- Settles O42, by the kind of step. -/
theorem configurationIsConstant : Obligations.ConfigurationIsConstant := by
  intro s t h
  obtain ⟨legal, outcome⟩ := step_outcome h
  refine ⟨?_, legal⟩
  cases outcome with
  | command c rest input outcome => exact outcome.cfg
  | access x rest i input word access => exact access.frame.cfg
  | tick rest running periodEnd entry => rw [State.tickHandler_cfg, entry]
  | _ => rfl

/-- The engine's fault is the only flag a tick of a segment raises, and it clears none. -/
theorem State.segmentTick_flags (f : Segment) (s : State) :
    (s.segmentTick f).flags = s.flags ∨ (s.segmentTick f).flags = s.flags.set .faultBadidx := by
  rcases State.segmentTick_cases f s with ⟨-, tick⟩ | ⟨-, -, tick⟩ | ⟨-, -, tick⟩ <;> rw [tick]
  · exact .inl (by simp)
  · exact .inr (by rw [State.takeFault_eq]; rfl)
  · exact .inl (by simp)

/-- The handler clears no flag and raises at most one. -/
theorem State.tickHandler_flags (s : State) :
    s.tickHandler.flags = s.flags ∨ ∃ k, s.tickHandler.flags = s.flags.set k := by
  rcases State.tickHandler_cases s with ⟨-, tick⟩ | ⟨-, -, tick⟩ <;> rw [tick]
  · exact (s.segmentTick_flags _).imp_right fun flags => ⟨_, flags⟩
  · exact .inr ⟨.cycleStop, by rw [State.shutdown_eq]; rfl⟩

/-- The bits of the flags after a write of 1s: those of codes 0 to 3 whose bit was written are cleared. -/
theorem FlagBits.get_clear (f : FlagBits) (d : Word) (c : Cause) :
    (f.clear d).get c = (f.get c && (decide (c = .faultBadidx) || !d.getLsbD c.code)) := by
  cases c <;> simp [FlagBits.clear, FlagBits.get, Cause.code]

/-- A set flag stays set through a register access, but for a write of 1 to its bit. -/
theorem RegisterAccess.flags {i : Instr} {s t : State} (access : RegisterAccess i s t) {c : Cause}
    (set : s.flags.get c = true) :
    t.flags.get c = true ∨ ∃ d, i = .stwFlags d ∧ d.getLsbD c.code = true ∧ c ≠ .faultBadidx := by
  cases access with
  | badCommand => exact .inl (by simp [set])
  | refused we => exact .inl (by cases we <;> simp [State.busError, set])
  | settings write =>
    rw [write.state]
    exact .inl set
  | clearFlags d write =>
    by_cases kept : d.getLsbD c.code = true ∧ c ≠ .faultBadidx
    · exact .inr ⟨d, write, kept⟩
    · refine .inl ?_
      rw [State.clearFlags_flags, FlagBits.get_clear, set]
      simp only [not_and, not_not] at kept
      cases written : d.getLsbD c.code
      · simp
      · simp [kept written]
  | _ => exact .inl set

/-- Settles O43, by the kind of step. -/
theorem flagsAreSticky : Obligations.FlagsAreSticky := by
  intro s t c h set
  obtain ⟨-, outcome⟩ := step_outcome h
  have raised : ∀ k, (s.flags.set k).get c = true := fun k => by rw [FlagBits.get_set, set, Bool.or_true]
  cases outcome with
  | powerOn rest input => exact .inr (.inr (.inr ⟨rest, input⟩))
  | command k rest input outcome =>
    rcases outcome.flags with ⟨rfl, -⟩ | flags | ⟨k, -, flags⟩
    · exact .inr (.inr (.inl ⟨rest, input⟩))
    · exact .inl (flags ▸ set)
    · exact .inl (flags ▸ raised k)
  | access x rest i input word access =>
    rcases access.flags set with kept | ⟨d, write, bit, notFault⟩
    · exact .inl kept
    · exact .inr (.inl ⟨d, rest, word d write ▸ input, bit, notFault⟩)
  | @tick rest running periodEnd u entry =>
    have same : u.flags = s.flags := by rw [entry]
    rw [← same] at set raised
    rcases u.tickHandler_flags with flags | ⟨k, flags⟩
    · exact .inl (flags ▸ set)
    · exact .inl (flags ▸ raised k)
  | _ => exact .inl set

end Sys2Proof.Machine
end

section
/-! PROOFS. The ring as a state machine (20_memory R81 to R83, R94): what a step does to the indices, the ring
invariant, the count, and the live slots. -/

namespace Sys2Proof.Machine

/-! ## Indices as numbers -/

/-- The index after an index of the ring, without the modulus. -/
theorem nextIndex_eq {c : Config} (legal : c.legal = true) {k : BitVec 8} (slot : k.toNat < c.nSeg) :
    (nextIndex c k).toNat = if k.toNat + 1 = c.nSeg then 0 else k.toNat + 1 := by
  rw [nextIndex_toNat legal]
  split
  case isTrue last => rw [last, Nat.mod_self]
  case isFalse inside => exact Nat.mod_eq_of_lt (by omega)

/-- The index after an index of the ring is one of the ring. -/
theorem nextIndex_lt {c : Config} (legal : c.legal = true) (k : BitVec 8) : (nextIndex c k).toNat < c.nSeg := by
  have slots := ((Config.legal_iff c).1 legal).2.1
  rw [nextIndex_toNat legal]
  exact Nat.mod_lt _ (by omega)

/-- The number of live slots, without the modulus (10_state R33). -/
theorem State.count_eq {s : State} (head : s.head.toNat < s.cfg.nSeg) (tail : s.tail.toNat < s.cfg.nSeg) :
    s.count = if s.tail.toNat ≤ s.head.toNat then s.head.toNat - s.tail.toNat
      else s.head.toNat + s.cfg.nSeg - s.tail.toNat := by
  unfold State.count
  split
  case isTrue ahead =>
    rw [show s.head.toNat + s.cfg.nSeg - s.tail.toNat = s.head.toNat - s.tail.toNat + s.cfg.nSeg by omega,
      Nat.add_mod_right, Nat.mod_eq_of_lt (by omega)]
  case isFalse wrapped => exact Nat.mod_eq_of_lt (by omega)

/-- The indices differ exactly as numbers do. -/
theorem State.head_ne_tail_iff (s : State) : s.head ≠ s.tail ↔ s.head.toNat ≠ s.tail.toNat :=
  BitVec.toNat_inj.not.symm

/-! ## What a step does to the ring -/

/-- The moves of the ring (20_memory R94): the indices stay, a slot is published, a slot is retired, the ring is
emptied. -/
inductive RingMove (s t : State) : Prop where
  | stay (head : t.head = s.head) (tail : t.tail = s.tail) (bound : t.exec.segValid = true → s.head ≠ s.tail)
  | publish (room : ¬ s.isFull = true) (head : t.head = nextIndex s.cfg s.head) (tail : t.tail = s.tail)
      (bound : t.exec.segValid = s.exec.segValid)
  | retire (live : s.head ≠ s.tail) (head : t.head = s.head) (tail : t.tail = nextIndex s.cfg s.tail)
      (bound : t.exec.segValid = false)
  | empty (head : t.head = 0) (tail : t.tail = 0) (bound : t.exec.segValid = false)

/-- One tick of a segment, from a state with the indices of `s`, retires the slot or leaves the indices. -/
theorem State.runSegment_ringMove (f : Segment) {s u : State} (cfg : u.cfg = s.cfg) (head : u.head = s.head)
    (tail : u.tail = s.tail) (live : s.head ≠ s.tail) : RingMove s (u.runSegment f) := by
  have moved := State.runSegment_tail f u
  have exec := State.runSegment_exec f u
  rw [cfg, tail] at moved
  have kept : (u.runSegment f).head = s.head := by rw [State.runSegment_head, head]
  split at moved
  case isTrue last => exact .retire live kept moved (by rw [exec]; exact if_pos last)
  case isFalse more => exact .stay kept moved fun _ => live

/-- The handler retires a slot or leaves the indices. -/
theorem State.tickHandler_ringMove {s : State} (bound : s.exec.segValid = true → s.head ≠ s.tail) :
    RingMove s s.tickHandler := by
  rcases State.tickHandler_cases s with ⟨has, tick⟩ | ⟨idle, -, tick⟩ <;> rw [tick]
  · have live : s.head ≠ s.tail := by
      simp only [State.hasSegment, State.isEmpty, Bool.or_eq_true, Bool.not_eq_true', beq_eq_false_iff_ne] at has
      exact has.elim bound id
    rcases State.segmentTick_cases (s.segment s.tail) s with ⟨-, tick⟩ | ⟨idle, -, tick⟩ | ⟨-, -, tick⟩ <;> rw [tick]
    · exact State.runSegment_ringMove _ rfl rfl rfl live
    · exact .stay (by simp) (by simp) fun _ => live
    · exact State.runSegment_ringMove _ (by simp) (by simp) (by simp) live
  · refine .stay (by simp) (by simp) ?_
    rw [State.shutdown_exec]
    exact fun valid => absurd (idle.symm.trans valid) Bool.false_ne_true

theorem CommandOutcome.ringMove {s t : State} {c : Command} (outcome : CommandOutcome s c t)
    (bound : s.exec.segValid = true → s.head ≠ s.tail) : RingMove s t := by
  cases outcome with
  | publish room => exact .publish room rfl rfl rfl
  | reset => exact .empty rfl rfl rfl
  | disable ovr => exact .stay (by simp) (by simp) (by simpa using bound)
  | _ => exact .stay rfl rfl bound

/-- Only the configuration, the indices and the bound segment matter to a move. -/
theorem RingMove.of_same {s u t : State} (move : RingMove u t) (cfg : u.cfg = s.cfg) (head : u.head = s.head)
    (tail : u.tail = s.tail) (valid : u.exec.segValid = s.exec.segValid) : RingMove s t := by
  have full : u.isFull = s.isFull := by rw [State.isFull, State.isFull, cfg, head, tail]
  cases move with
  | stay head' tail' bound => exact .stay (head'.trans head) (tail'.trans tail) (head ▸ tail ▸ bound)
  | publish room head' tail' bound =>
    exact .publish (full ▸ room) (cfg ▸ head ▸ head') (tail'.trans tail) (bound.trans valid)
  | retire live head' tail' bound => exact .retire (head ▸ tail ▸ live) (head'.trans head) (cfg ▸ tail ▸ tail') bound
  | empty head' tail' bound => exact .empty head' tail' bound

/-- Every step makes one of the moves of the ring. -/
theorem step_ringMove {s t : State} (bound : s.exec.segValid = true → s.head ≠ s.tail) (h : step s = .next t) :
    RingMove s t := by
  obtain ⟨-, outcome⟩ := step_outcome h
  cases outcome with
  | powerOn => exact .empty rfl rfl rfl
  | command c rest input outcome => exact (outcome.ringMove bound).of_same rfl rfl rfl rfl
  | access x rest i input word access =>
    have frame := access.frame
    exact .stay frame.head frame.tail (by rw [frame.exec]; exact bound)
  | @tick rest running periodEnd u entry =>
    have cfg : u.cfg = s.cfg := by rw [entry]
    have head : u.head = s.head := by rw [entry]
    have tail : u.tail = s.tail := by rw [entry]
    have exec : u.exec = s.exec := by rw [entry]
    refine (State.tickHandler_ringMove ?_).of_same cfg head tail (by rw [exec])
    rwa [exec, head, tail]
  | _ => exact .stay rfl rfl bound

/-- Settles O44, by the move the ring makes: a slot is published only where that does not close the ring on `tail`, and
a retired one is no longer bound. -/
theorem stepKeepsRingInv : Obligations.StepKeepsRingInv := by
  intro s t inv h
  obtain ⟨cfg, legal⟩ := configurationIsConstant s t h
  obtain ⟨headSlot, tailSlot, bound⟩ := inv
  have slots := ((Config.legal_iff s.cfg).1 legal).2.1
  unfold State.RingInv
  rw [cfg]
  cases step_ringMove bound h with
  | stay head tail bound =>
    rw [head, tail]
    exact ⟨headSlot, tailSlot, bound⟩
  | publish room head tail =>
    rw [head, tail]
    exact ⟨nextIndex_lt legal _, tailSlot, fun _ closed => room (beq_iff_eq.2 closed.symm)⟩
  | retire live head tail bound =>
    rw [head, tail, bound]
    exact ⟨headSlot, nextIndex_lt legal _, fun valid => absurd valid Bool.false_ne_true⟩
  | empty head tail bound =>
    rw [head, tail, bound]
    exact ⟨by simp; omega, by simp; omega, fun valid => absurd valid Bool.false_ne_true⟩

/-- Settles O45, by the move the ring makes, with the count as the distance of the indices. -/
theorem ringTransitions : Obligations.RingTransitions := by
  intro s t inv h
  obtain ⟨cfg, legal⟩ := configurationIsConstant s t h
  obtain ⟨headSlot', tailSlot', -⟩ := stepKeepsRingInv s t inv h
  obtain ⟨headSlot, tailSlot, bound⟩ := inv
  have slots := ((Config.legal_iff s.cfg).1 legal).2.1
  have before := State.count_eq headSlot tailSlot
  have after := State.count_eq headSlot' tailSlot'
  rw [cfg] at headSlot' tailSlot' after
  refine ⟨by split at after <;> omega, ?_⟩
  cases step_ringMove bound h with
  | stay head tail =>
    refine .inl ⟨head, tail, ?_⟩
    rw [head, tail] at after
    rw [after, before]
  | publish room head tail =>
    have next := nextIndex_eq legal headSlot
    rw [State.isFull_iff legal, ← nextIndex_toNat legal] at room
    rw [head, tail] at after
    refine .inr (.inl ⟨by rw [head, nextIndex_toNat legal], tail, ?_, ?_⟩)
    · grind
    · grind
  | retire live head tail =>
    have next := nextIndex_eq legal tailSlot
    rw [State.head_ne_tail_iff] at live
    rw [head, tail] at after
    refine .inr (.inr (.inl ⟨head, by rw [tail, nextIndex_toNat legal], ?_⟩))
    grind
  | empty head tail =>
    rw [head, tail] at after
    exact .inr (.inr (.inr ⟨head, tail, by simpa using after⟩))

/-! ## Live slots (20_memory R83) -/

/-- A word is its four bytes. -/
theorem Memory.readWord_congr {m m' : Memory} (free : Nat → Byte) {a : Nat}
    (same : ∀ b, a ≤ b → b < a + 4 → m'.read b = m.read b) : m'.readWord free a = m.readWord free a := by
  simp only [Memory.readWord]
  rw [same (a + 0) (by omega) (by omega), same (a + 1) (by omega) (by omega), same (a + 2) (by omega) (by omega),
    same (a + 3) (by omega) (by omega)]

/-- A segment is the eight bytes of its slot. -/
theorem State.segment_congr {s t : State} {k : BitVec 8} (epoch : t.epoch = s.epoch)
    (same : ∀ a, 8 * k.toNat ≤ a → a < 8 * k.toNat + 8 → t.ring.read a = s.ring.read a) :
    t.segment k = s.segment k := by
  have lower : t.segW0 k = s.segW0 k := by
    rw [State.segW0, State.segW0, State.ringWord, State.ringWord, epoch]
    exact Memory.readWord_congr _ fun b low high => same b low (by omega)
  have upper : t.segW1 k = s.segW1 k := by
    rw [State.segW1, State.segW1, State.ringWord, State.ringWord, epoch]
    exact congrArg (· &&& segw1Mask) (Memory.readWord_congr _ fun b low high => same b (by omega) (by omega))
  rw [State.segment, State.segment, State.segWord, State.segWord, lower, upper]

/-- The bytes of the ring outside slot `head` are the same, and no contents became unspecified. -/
structure RingKept (s t : State) : Prop where
  epoch : t.epoch = s.epoch
  bytes : ∀ a, (a < 8 * s.head.toNat ∨ 8 * s.head.toNat + 8 ≤ a) → t.ring.read a = s.ring.read a

theorem RingKept.of_eq {s t : State} (epoch : t.epoch = s.epoch) (ring : t.ring = s.ring) : RingKept s t :=
  ⟨epoch, fun a _ => by rw [ring]⟩

/-- A segment in another slot than `head` is the same. -/
theorem RingKept.segment {s t : State} (kept : RingKept s t) {k : BitVec 8} (other : k ≠ s.head) :
    t.segment k = s.segment k := by
  have ne : k.toNat ≠ s.head.toNat := BitVec.toNat_inj.not.2 other
  exact State.segment_congr kept.epoch fun a low high => kept.bytes a (by omega)

theorem RegisterAccess.ringKept {i : Instr} {s t : State} (access : RegisterAccess i s t) : RingKept s t := by
  cases access with
  | segW0 d => exact ⟨rfl, fun a outside => Memory.read_writeWord_other _ _ (by omega)⟩
  | segW1 d => exact ⟨rfl, fun a outside => Memory.read_writeWord_other _ _ (by omega)⟩
  | refused we => exact .of_eq (by simp) (by simp)
  | settings write =>
    rw [write.state]
    exact .of_eq rfl rfl
  | _ => exact .of_eq rfl rfl

theorem CommandOutcome.ringKept {s t : State} {c : Command} (outcome : CommandOutcome s c t) (noReset : c ≠ .reset) :
    RingKept s t := by
  cases outcome with
  | disable ovr => exact .of_eq (by simp) (by simp)
  | reset => exact absurd rfl noReset
  | _ => exact .of_eq rfl rfl

/-- Every instruction but `RESET` keeps the ring outside slot `head`. -/
theorem exec_ringKept {i : Instr} {s t : State} (h : exec i s = .next t) (notReset : i ≠ .reset)
    (notResetWord : i ≠ .stwCmd 4) : RingKept s t := by
  rcases exec_kinds h with ⟨f, -, rfl⟩ | ⟨-, rfl⟩ | ⟨-, rfl⟩ | ⟨c, spelling, outcome⟩ | access
  · exact .of_eq (by simp) (by simp)
  · exact .of_eq (by simp) (by simp)
  · exact .of_eq rfl rfl
  · exact outcome.ringKept (command_ne (k := .reset) spelling notReset notResetWord)
  · exact access.ringKept

/-- Slot `head` is never live: it lies `count` slots from `tail`. -/
theorem State.isLive_head (s : State) : s.isLive s.head.toNat = false := by
  simp [State.isLive, State.count]

/-- Settles O9: an instruction writes the ring in slot `head` only, and a live slot is another one. -/
theorem liveSegmentsCannotBeAltered : Obligations.LiveSegmentsCannotBeAltered := by
  intro i s t legal _ h notReset notResetWord
  have slots := ((Config.legal_iff s.cfg).1 legal).2.1
  have kept := exec_ringKept h notReset notResetWord
  refine ⟨s.isLive_head, kept.bytes, ?_⟩
  intro k live
  refine kept.segment ?_
  rintro same
  have inRing : k < s.cfg.nSeg := by
    rw [State.isLive, Bool.and_eq_true] at live
    exact of_decide_eq_true live.1
  have index : k = s.head.toNat := by
    rw [← same, BitVec.toNat_ofNat]
    omega
  rw [index, s.isLive_head] at live
  exact Bool.false_ne_true live

end Sys2Proof.Machine
end

section
/-! PROOFS. The invariants every step keeps: the timer, the absent axes, the memories, the bound block, the fault
(42_pulse_reset_and_timer R213, R214, 10_state R24, R43 to R48, 20_memory R76, 60_exceptions R277). -/

namespace Sys2Proof

/-! ## Masks and vectors of existing axes -/

/-- Masking with the existing axes leaves nothing on the absent ones. -/
theorem within_axisMask (c : Config) (m : AxisBits) : AxisBits.Within c (m &&& c.axisMask) := by
  intro i bit
  rw [AxisBits.bit_and, Config.axisMask_bit, Bool.and_eq_true] at bit
  exact of_decide_eq_true bit.2

theorem within_zero (c : Config) : AxisBits.Within c 0#6 := by
  intro i bit
  rw [AxisBits.bit_zero] at bit
  cases bit

theorem AxisBits.Within.and {c : Config} {a : AxisBits} (within : AxisBits.Within c a) (b : AxisBits) :
    AxisBits.Within c (a &&& b) := by
  intro i bit
  rw [AxisBits.bit_and, Bool.and_eq_true] at bit
  exact within i bit.1

theorem AxisBits.Within.or {c : Config} {a b : AxisBits} (left : AxisBits.Within c a) (right : AxisBits.Within c b) :
    AxisBits.Within c (a ||| b) := by
  intro i bit
  rw [AxisBits.bit_or, Bool.or_eq_true] at bit
  exact bit.elim (left i) (right i)

theorem AxisBits.Within.xor {c : Config} {a b : AxisBits} (left : AxisBits.Within c a) (right : AxisBits.Within c b) :
    AxisBits.Within c (a ^^^ b) := by
  intro i bit
  rw [AxisBits.bit_xor, bne_iff_ne] at bit
  cases set : a.bit i
  · exact right i (by simpa [set] using bit)
  · exact left i set

theorem within_fill (c : Config) : AxisVec.Within c (AxisVec.fill 0) :=
  fun i _ => AxisVec.get_fill 0 i

/-- A vector computed on the existing axes and kept on the others stays 0 there. -/
theorem AxisVec.Within.update {c : Config} {v : AxisVec Word} (within : AxisVec.Within c v) (f : Axis → Word) :
    AxisVec.Within c (AxisVec.ofFn fun i => if c.hasAxis i then f i else v.get i) := by
  intro i absent
  have none : c.hasAxis i = false := decide_eq_false (not_lt.2 absent)
  simp [none, within i absent]

end Sys2Proof

namespace Sys2Proof.Machine

/-! ## The timer (42_pulse_reset_and_timer R213, R214) -/

/-- The timer invariant speaks of the configuration and the timer's count and reloads. -/
theorem State.TimerInv.of_same {s t : State} (inv : s.TimerInv) (cfg : t.cfg = s.cfg) {run : Bool}
    (timer : t.timer = { s.timer with run := run }) : t.TimerInv := by
  unfold State.TimerInv
  rw [cfg, timer]
  exact inv

/-- The default registers meet the invariant. -/
theorem timerInv_of_default {s : State} (legal : s.cfg.legal = true) (timer : s.timer = TimerRegs.default s.cfg) :
    s.TimerInv := by
  have least := ((Config.legal_iff s.cfg).1 legal).2.2.2.2.2
  have arr := TimerRegs.default_arr_toNat legal
  have ccr := TimerRegs.default_ccr_toNat legal
  have tcnt : (TimerRegs.default s.cfg).tcnt.toNat = 0 := rfl
  unfold State.TimerInv
  rw [timer]
  omega

/-- A count of 0 lies inside any period. -/
theorem State.TimerInv.restart {s t : State} (inv : s.TimerInv) (cfg : t.cfg = s.cfg) {run : Bool}
    (timer : t.timer = { s.timer with tcnt := 0, run := run }) : t.TimerInv := by
  obtain ⟨arr, ccr, tcnt⟩ := inv
  unfold State.TimerInv
  rw [cfg, timer]
  exact ⟨arr, ccr, Nat.zero_lt_of_lt tcnt⟩

/-- What the handler does to the timer: nothing, stop it, or program a segment's reload. -/
theorem State.tickHandler_timer (s : State) :
    s.tickHandler.timer = s.timer ∨ s.tickHandler.timer = { s.timer with run := false } ∨
      ∃ v : Half, s.tickHandler.timer =
        { s.timer with arr := clampReload s.cfg v, ccr := compareOf (clampReload s.cfg v) } := by
  rcases State.tickHandler_cases s with ⟨-, tick⟩ | ⟨-, -, tick⟩ <;> rw [tick]
  · rcases State.segmentTick_cases (s.segment s.tail) s with ⟨-, tick⟩ | ⟨-, -, tick⟩ | ⟨-, -, tick⟩ <;> rw [tick]
    · exact .inl (by simp)
    · exact .inr (.inl (by rw [State.takeFault_eq]; rfl))
    · exact .inr (.inr ⟨(s.segment s.tail).cyclesPerTick, by simp⟩)
  · refine .inr (.inl ?_)
    rw [State.shutdown_eq, State.disableSeq_eq]
    rfl

/-- The handler keeps the invariant at the start of a period. -/
theorem State.tickHandler_timerInv {s : State} (legal : s.cfg.legal = true) (inv : s.TimerInv)
    (start : s.timer.tcnt = 0) : s.tickHandler.TimerInv := by
  rcases s.tickHandler_timer with timer | timer | ⟨v, timer⟩
  · exact inv.of_same s.tickHandler_cfg timer
  · exact inv.of_same s.tickHandler_cfg timer
  · have least := ((Config.legal_iff s.cfg).1 legal).2.2.2.2.2
    have arr := clampReload_toNat legal v
    unfold State.TimerInv
    rw [s.tickHandler_cfg, timer]
    simp only [start, compareOf_toNat, arr]
    simp
    omega

theorem CommandOutcome.timerInv {s t : State} {c : Command} (outcome : CommandOutcome s c t)
    (legal : s.cfg.legal = true) (inv : s.TimerInv) : t.TimerInv := by
  cases outcome with
  | init => exact timerInv_of_default legal rfl
  | reset => exact timerInv_of_default legal rfl
  | disable ovr => exact inv.of_same (by simp) (s.disableSeq_timer ovr)
  | wake sound =>
    by_cases running : s.timer.run = true
    · exact inv.of_same (run := s.timer.run) rfl (if_pos running)
    · exact inv.restart (run := true) rfl (if_neg running)
  | _ => exact inv

/-- Inside a period the count goes up without wrapping. -/
theorem State.TimerInv.count {s t : State} (inv : s.TimerInv) (inside : s.timer.tcnt + 1 ≠ s.timer.arr)
    (cfg : t.cfg = s.cfg) (timer : t.timer = { s.timer with tcnt := s.timer.tcnt + 1 }) : t.TimerInv := by
  obtain ⟨arr, ccr, tcnt⟩ := inv
  have width := s.timer.arr.isLt
  rw [ne_eq, ← BitVec.toNat_inj, BitVec.toNat_add] at inside
  have one : (1 : Half).toNat = 1 := rfl
  unfold State.TimerInv
  rw [cfg, timer]
  refine ⟨arr, ccr, ?_⟩
  change (s.timer.tcnt + 1).toNat < s.timer.arr.toNat
  rw [BitVec.toNat_add]
  omega

/-- Settles O46, by the kind of step. -/
theorem stepKeepsTimerInv : Obligations.StepKeepsTimerInv := by
  intro s t inv h
  obtain ⟨legal, outcome⟩ := step_outcome h
  cases outcome with
  | powerOn => exact timerInv_of_default legal rfl
  | command c rest input outcome => exact outcome.timerInv legal inv
  | access x rest i input word access => exact inv.of_same access.frame.cfg access.frame.timer
  | stopped => exact inv
  | @tick rest running periodEnd u entry =>
    have cfg : u.cfg = s.cfg := by rw [entry]
    have timer : u.timer = { s.timer with tcnt := 0 } := by rw [entry]
    exact State.tickHandler_timerInv (cfg ▸ legal) (inv.restart cfg timer) (by rw [timer])
  | preset rest running inside => exact inv.count inside rfl rfl
  | count rest running inside => exact inv.count inside rfl rfl

/-! ## The bound block (10_state R24, 41_see_tick R178) -/

/-- The block invariant speaks of the configuration and ExecState. -/
theorem State.BlockInv.of_same {s t : State} (inv : s.BlockInv) (cfg : t.cfg = s.cfg) (exec : t.exec = s.exec) :
    t.BlockInv := by
  unfold State.BlockInv
  rw [cfg, exec]
  exact inv

/-- One tick of a segment keeps the block and may only release the segment. -/
theorem State.runSegment_blockInv (f : Segment) {s : State} (inv : s.BlockInv) : (s.runSegment f).BlockInv := by
  obtain ⟨bound, entry⟩ := inv
  unfold State.BlockInv
  rw [State.runSegment_exec, State.runSegment_cfg]
  refine ⟨fun valid => bound ?_, entry⟩
  by_contra idle
  split at valid
  · cases valid
  · exact idle valid

/-- The handler keeps the bound block a pool entry: it binds only an index it has checked (41_see_tick R178). -/
theorem State.tickHandler_blockInv {s : State} (inv : s.BlockInv) : s.tickHandler.BlockInv := by
  have afterA : s.phaseA.BlockInv := inv
  rcases State.tickHandler_cases s with ⟨-, tick⟩ | ⟨-, -, tick⟩ <;> rw [tick]
  · rcases State.segmentTick_cases (s.segment s.tail) s with ⟨-, tick⟩ | ⟨-, -, tick⟩ | ⟨-, inPool, tick⟩ <;> rw [tick]
    · exact State.runSegment_blockInv _ afterA
    · exact afterA.of_same (by simp) (by simp)
    · refine State.runSegment_blockInv _ ?_
      unfold State.BlockInv
      rw [State.loadSegment_exec, State.loadSegment_cfg]
      exact ⟨fun _ => rfl, fun _ => inPool⟩
  · exact afterA.of_same (by simp) (by simp)

/-- Nothing bound meets the block invariant. -/
theorem blockInv_of_zero {s : State} (exec : s.exec = ExecState.zero) : s.BlockInv := by
  unfold State.BlockInv
  rw [exec]
  exact ⟨nofun, nofun⟩

theorem CommandOutcome.blockInv {s t : State} {c : Command} (outcome : CommandOutcome s c t) (inv : s.BlockInv) :
    t.BlockInv := by
  cases outcome with
  | reset => exact blockInv_of_zero rfl
  | disable ovr => exact inv.of_same (by simp) (by simp)
  | _ => exact inv

/-- Settles O49, by the kind of step. -/
theorem stepKeepsBlockInv : Obligations.StepKeepsBlockInv := by
  intro s t inv h
  obtain ⟨-, outcome⟩ := step_outcome h
  cases outcome with
  | powerOn => exact blockInv_of_zero rfl
  | command c rest input outcome => exact outcome.blockInv inv
  | access x rest i input word access => exact inv.of_same access.frame.cfg access.frame.exec
  | tick rest running periodEnd entry => exact State.tickHandler_blockInv (by rw [entry]; exact inv)
  | _ => exact inv

/-! ## The memories (20_memory R70, R76) -/

/-- The memory invariant speaks of the configuration and the two memories. -/
theorem State.MemoryInv.of_same {s t : State} (inv : s.MemoryInv) (cfg : t.cfg = s.cfg) (pool : t.pool = s.pool)
    (ring : t.ring = s.ring) : t.MemoryInv := by
  unfold State.MemoryInv
  rw [cfg, pool, ring]
  exact inv

/-- Empty memories meet the invariant. -/
theorem memoryInv_of_empty {s : State} (pool : s.pool = []) (ring : s.ring = []) : s.MemoryInv := by
  unfold State.MemoryInv
  rw [pool, ring]
  exact ⟨.nil, .nil, by simp, by simp⟩

/-- Every byte of an existing pool word is an address of the pool (20_memory R76, R77). -/
theorem poolAddress_of_hasPoolWord {s : State} (legal : s.cfg.legal = true) {b : BitVec 7} {word : Nat}
    (exists_ : s.hasPoolWord b word = true) {a : Nat} (low : poolByteAddr b.toNat word ≤ a)
    (high : a < poolByteAddr b.toNat word + 4) : s.cfg.poolAddress a := by
  have axes := ((Config.legal_iff s.cfg).1 legal).1
  obtain ⟨block, axis⟩ := (s.hasPoolWord_iff b word).1 exists_
  unfold poolByteAddr at low high
  unfold Config.poolAddress
  omega

theorem RegisterAccess.memoryInv {i : Instr} {s t : State} (access : RegisterAccess i s t) (legal : s.cfg.legal = true)
    (slot : s.head.toNat < s.cfg.nSeg) (inv : s.MemoryInv) : t.MemoryInv := by
  obtain ⟨poolWf, ringWf, poolMap, ringMap⟩ := inv
  cases access with
  | segW0 d =>
    refine ⟨poolWf, Memory.writeWord_wf ringWf _ _, poolMap, fun p mem => ?_⟩
    rcases Memory.mem_writeWord mem with ⟨low, high⟩ | old
    · simp only [State.setSegW0_cfg]
      omega
    · exact ringMap p old
  | segW1 d =>
    refine ⟨poolWf, Memory.writeWord_wf ringWf _ _, poolMap, fun p mem => ?_⟩
    rcases Memory.mem_writeWord mem with ⟨low, high⟩ | old
    · simp only [State.setSegW1_cfg]
      omega
    · exact ringMap p old
  | poolWord b word d exists_ =>
    refine ⟨Memory.writeWord_wf poolWf _ _, ringWf, fun p mem => ?_, ringMap⟩
    rcases Memory.mem_writeWord mem with ⟨low, high⟩ | old
    · exact poolAddress_of_hasPoolWord legal exists_ low high
    · exact poolMap p old
  | refused we => exact State.MemoryInv.of_same ⟨poolWf, ringWf, poolMap, ringMap⟩ (by simp) (by simp) (by simp)
  | settings write =>
    rw [write.state]
    exact ⟨poolWf, ringWf, poolMap, ringMap⟩
  | _ => exact ⟨poolWf, ringWf, poolMap, ringMap⟩

theorem CommandOutcome.memoryInv {s t : State} {c : Command} (outcome : CommandOutcome s c t) (inv : s.MemoryInv) :
    t.MemoryInv := by
  cases outcome with
  | reset => exact memoryInv_of_empty rfl rfl
  | disable ovr => exact inv.of_same (by simp) (by simp) (by simp)
  | _ => exact inv

/-- Settles O48, by the kind of step: only the window at `head`, a slot of the ring, and the existing pool words are
written. -/
theorem stepKeepsMemoryInv : Obligations.StepKeepsMemoryInv := by
  intro s t ringInv inv h
  obtain ⟨legal, outcome⟩ := step_outcome h
  cases outcome with
  | powerOn => exact memoryInv_of_empty rfl rfl
  | command c rest input outcome => exact outcome.memoryInv inv
  | access x rest i input word access => exact access.memoryInv legal ringInv.1 inv
  | tick rest running periodEnd entry =>
    refine State.MemoryInv.of_same inv ?_ ?_ ?_ <;> simp [entry]
  | _ => exact inv

/-! ## The fault (60_exceptions R277, R278) -/

/-- With no fault there is nothing to say. -/
theorem faultInv_of_sound {s : State} (sound : s.flags.faultBadidx = false) : s.FaultInv :=
  fun fault => absurd (sound.symm.trans fault) Bool.false_ne_true

/-- A faulted engine stays on its slot while the timer stays stopped, nothing is bound and the ring is written in slot
`head` only. -/
theorem State.FaultInv.of_kept {s t : State} (inv : s.FaultInv) (flag : t.flags.faultBadidx = s.flags.faultBadidx)
    (cfg : t.cfg = s.cfg) (run : s.timer.run = false → t.timer.run = false) (exec : t.exec = s.exec)
    (tail : t.tail = s.tail) (live : s.head ≠ s.tail → t.head ≠ s.tail) (ring : RingKept s t) : t.FaultInv := by
  intro fault
  obtain ⟨halted, idle, ne, bad⟩ := inv (flag ▸ fault)
  rw [cfg, exec, tail, ring.segment ne.symm]
  exact ⟨run halted, idle, live ne, bad⟩

theorem RegisterAccess.faultInv {i : Instr} {s t : State} (access : RegisterAccess i s t) (inv : s.FaultInv) :
    t.FaultInv := by
  have frame := access.frame
  have flag : t.flags.faultBadidx = s.flags.faultBadidx := by
    cases access with
    | refused we => cases we <;> rfl
    | settings write => rw [write.state]
    | _ => rfl
  exact inv.of_kept flag frame.cfg (fun halted => by rw [frame.timer, halted]) frame.exec frame.tail
    (by rw [frame.head]; exact id) access.ringKept

theorem CommandOutcome.faultInv {s t : State} {c : Command} (outcome : CommandOutcome s c t) (inv : s.FaultInv) :
    t.FaultInv := by
  have ring := outcome.ringKept
  cases outcome with
  | reset => exact faultInv_of_sound rfl
  | wake sound => exact faultInv_of_sound sound
  | publish room => exact inv.of_kept rfl rfl id rfl rfl (fun _ closed => room (beq_iff_eq.2 closed.symm)) (ring nofun)
  | init => exact inv.of_kept rfl rfl (fun _ => rfl) rfl rfl id (ring nofun)
  | disable ovr =>
    exact inv.of_kept (by simp) (by simp) (fun _ => by rw [State.disableSeq_timer]) (by simp) (by simp) (by simp)
      (ring nofun)
  | _ => exact inv

/-- The handler takes the fault on the slot at `tail` and on no other path raises it. -/
theorem State.tickHandler_faultInv {s : State} (sound : s.flags.faultBadidx = false) : s.tickHandler.FaultInv := by
  rcases State.tickHandler_cases s with ⟨has, tick⟩ | ⟨-, -, tick⟩ <;> rw [tick]
  · rcases State.segmentTick_cases (s.segment s.tail) s with ⟨-, tick⟩ | ⟨idle, bad, tick⟩ | ⟨-, -, tick⟩ <;> rw [tick]
    · exact faultInv_of_sound (by simp [sound])
    · intro _
      rw [State.takeFault_eq]
      refine ⟨rfl, idle, ?_, bad⟩
      simpa [State.hasSegment, State.isEmpty, idle] using has
    · exact faultInv_of_sound (by simp [sound])
  · refine faultInv_of_sound ?_
    rw [State.shutdown_eq]
    exact sound

/-- Settles O50, by the kind of step: a running timer means no fault, and nothing but the handler takes one. -/
theorem stepKeepsFaultInv : Obligations.StepKeepsFaultInv := by
  intro s t inv h
  obtain ⟨-, outcome⟩ := step_outcome h
  have sound : s.timer.run = true → s.flags.faultBadidx = false := by
    intro running
    by_contra fault
    obtain ⟨halted, -⟩ := inv (Bool.not_eq_false _ ▸ fault)
    exact Bool.false_ne_true (halted.symm.trans running)
  cases outcome with
  | powerOn => exact faultInv_of_sound rfl
  | command c rest input outcome => exact outcome.faultInv inv
  | access x rest i input word access => exact access.faultInv inv
  | stopped => exact inv
  | tick rest running periodEnd entry => exact State.tickHandler_faultInv (by rw [entry]; exact sound running)
  | preset rest running => exact faultInv_of_sound (sound running)
  | count rest running => exact faultInv_of_sound (sound running)

/-! ## Absent axes (10_state R43, R44, R47, 30_encoding R106) -/

/-- Nothing of ExecState is stored for an absent axis. -/
structure ExecWithin (c : Config) (e : ExecState) : Prop where
  stepOutbits : AxisBits.Within c e.stepOutbits
  dirOutbits : AxisBits.Within c e.dirOutbits
  counter : AxisVec.Within c e.counter
  steps : AxisVec.Within c e.steps

/-- Nothing the host writes and the active masks is stored for an absent axis. -/
structure HostWithin (s : State) : Prop where
  setStepInv : AxisBits.Within s.cfg s.settings.stepInv
  setDirInv : AxisBits.Within s.cfg s.settings.dirInv
  homingLock : AxisBits.Within s.cfg s.sysctl.homingLock
  stepInv : AxisBits.Within s.cfg s.stepInv
  dirInv : AxisBits.Within s.cfg s.dirInv

/-- The mask invariant by owner: the engine's registers, the host's, the lines, the positions. -/
structure MaskParts (s : State) : Prop where
  exec : ExecWithin s.cfg s.exec
  host : HostWithin s
  step : AxisBits.Within s.cfg s.lines.step
  dir : AxisBits.Within s.cfg s.lines.dir
  position : AxisVec.Within s.cfg s.sysPosition

theorem maskInv_iff (s : State) : s.MaskInv ↔ MaskParts s := by
  constructor
  · rintro ⟨outbits, dirOutbits, setStep, setDir, lock, stepInv, dirInv, step, dir, counter, steps, position⟩
    exact ⟨⟨outbits, dirOutbits, counter, steps⟩, ⟨setStep, setDir, lock, stepInv, dirInv⟩, step, dir, position⟩
  · rintro ⟨⟨outbits, dirOutbits, counter, steps⟩, ⟨setStep, setDir, lock, stepInv, dirInv⟩, step, dir, position⟩
    exact ⟨outbits, dirOutbits, setStep, setDir, lock, stepInv, dirInv, step, dir, counter, steps, position⟩

/-- What the engine does leaves the host's registers and the masks. -/
structure EngineFrame (s t : State) : Prop where
  cfg : t.cfg = s.cfg
  settings : t.settings = s.settings
  sysctl : t.sysctl = s.sysctl
  stepInv : t.stepInv = s.stepInv
  dirInv : t.dirInv = s.dirInv

theorem HostWithin.of_frame {s t : State} (within : HostWithin s) (frame : EngineFrame s t) : HostWithin t := by
  obtain ⟨setStep, setDir, lock, stepInv, dirInv⟩ := within
  constructor
  · rw [frame.cfg, frame.settings]; exact setStep
  · rw [frame.cfg, frame.settings]; exact setDir
  · rw [frame.cfg, frame.sysctl]; exact lock
  · rw [frame.cfg, frame.stepInv]; exact stepInv
  · rw [frame.cfg, frame.dirInv]; exact dirInv

theorem ExecWithin.zero (c : Config) : ExecWithin c ExecState.zero :=
  ⟨within_zero c, within_zero c, within_fill c, within_fill c⟩

theorem MaskParts.phaseA {s : State} (parts : MaskParts s) : MaskParts s.phaseA where
  exec := ⟨within_zero _, parts.exec.dirOutbits, parts.exec.counter, parts.exec.steps⟩
  host := parts.host.of_frame (by constructor <;> rfl)
  step := within_axisMask _ _
  dir := parts.dir
  position := parts.position

theorem MaskParts.takeFault {s : State} (parts : MaskParts s) : MaskParts s.takeFault := by
  rw [State.takeFault_eq]
  exact ⟨parts.exec, parts.host.of_frame (by constructor <;> rfl), within_axisMask _ _, parts.dir, parts.position⟩

theorem MaskParts.disableSeq {s : State} (parts : MaskParts s) (ovr : Bool) : MaskParts (s.disableSeq ovr) := by
  rw [State.disableSeq_eq]
  exact ⟨parts.exec, parts.host.of_frame (by constructor <;> rfl), within_axisMask _ _, parts.dir, parts.position⟩

theorem MaskParts.shutdown {s : State} (parts : MaskParts s) : MaskParts s.shutdown := by
  rw [State.shutdown_eq, State.disableSeq_eq]
  exact ⟨parts.exec, parts.host.of_frame (by constructor <;> rfl), within_axisMask _ _, parts.dir, parts.position⟩

/-- A pool entry has direction bits of existing axes only. -/
theorem State.blkDirBits_within (s : State) (b : Nat) : AxisBits.Within s.cfg (s.blkDirBits b) :=
  within_axisMask _ _

theorem MaskParts.loadSegment {s : State} (parts : MaskParts s) (f : Segment) : MaskParts (s.loadSegment f) where
  exec := by
    rw [State.loadSegment_exec, State.loadSegment_cfg]
    refine ⟨parts.exec.stepOutbits, ?_, ?_, parts.exec.steps.update _⟩
    · show AxisBits.Within s.cfg (if _ then _ else _)
      split
      · exact (s.blkDirBits_within _).xor parts.host.dirInv
      · exact parts.exec.dirOutbits
    · show AxisVec.Within s.cfg (if _ then _ else _)
      split
      · exact parts.exec.counter.update _
      · exact parts.exec.counter
  host := parts.host.of_frame (by constructor <;> simp)
  step := by
    rw [State.loadSegment_lines, State.loadSegment_cfg]
    split <;> exact parts.step
  dir := by
    rw [State.loadSegment_lines, State.loadSegment_cfg]
    split
    · exact within_axisMask _ _
    · exact parts.dir
  position := by
    rw [State.loadSegment_sysPosition, State.loadSegment_cfg]
    exact parts.position

/-- Only existing axes step. -/
theorem State.axisSteps_within (s : State) : AxisBits.Within s.cfg (AxisBits.ofFn fun i => s.axisSteps i) := by
  intro i bit
  rw [AxisBits.bit_ofFn, State.axisSteps, Bool.and_eq_true] at bit
  exact of_decide_eq_true bit.1

theorem MaskParts.runSegment {s : State} (parts : MaskParts s) (f : Segment) : MaskParts (s.runSegment f) where
  exec := by
    rw [State.runSegment_exec, State.runSegment_cfg]
    refine ⟨?_, parts.exec.dirOutbits, parts.exec.counter.update _, parts.exec.steps⟩
    have decided := parts.exec.stepOutbits.or s.axisSteps_within
    show AxisBits.Within s.cfg s.decidedBits
    unfold State.decidedBits
    split
    · exact decided.and _
    · exact decided
  host := parts.host.of_frame (by constructor <;> simp)
  step := by
    rw [State.runSegment_lines, State.runSegment_cfg]
    exact parts.step
  dir := by
    rw [State.runSegment_lines, State.runSegment_cfg]
    exact parts.dir
  position := by
    intro i absent
    rw [State.runSegment_cfg] at absent
    have still : s.axisSteps i = false := by
      by_contra steps
      exact absurd (s.axisSteps_within i (by simpa using steps)) (not_lt.2 absent)
    rw [State.runSegment_sysPosition, AxisVec.get_ofFn, still]
    exact parts.position i absent

theorem MaskParts.tickHandler {s : State} (parts : MaskParts s) : MaskParts s.tickHandler := by
  rcases State.tickHandler_cases s with ⟨-, tick⟩ | ⟨-, -, tick⟩ <;> rw [tick]
  · rcases State.segmentTick_cases (s.segment s.tail) s with ⟨-, tick⟩ | ⟨-, -, tick⟩ | ⟨-, -, tick⟩ <;> rw [tick]
    · exact parts.phaseA.runSegment _
    · exact parts.phaseA.takeFault
    · exact (parts.phaseA.loadSegment _).runSegment _
  · exact parts.phaseA.shutdown

theorem CommandOutcome.maskParts {s t : State} {c : Command} (outcome : CommandOutcome s c t) (parts : MaskParts s) :
    MaskParts t := by
  obtain ⟨exec, host, step, dir, position⟩ := parts
  have masks : HostWithin { s with stepInv := s.settings.stepInv, dirInv := s.settings.dirInv } :=
    ⟨host.setStepInv, host.setDirInv, host.homingLock, host.setStepInv, host.setDirInv⟩
  cases outcome with
  | reset =>
    exact ⟨.zero _, masks.of_frame (by constructor <;> rfl), within_zero _, within_zero _, position⟩
  | genmask => exact ⟨exec, masks, step, dir, position⟩
  | disable ovr => exact MaskParts.disableSeq ⟨exec, host, step, dir, position⟩ ovr
  | _ => exact ⟨exec, host.of_frame (by constructor <;> rfl), step, dir, position⟩

/-- A masked value, or the value before, has bits of existing axes only. -/
theorem within_of_masked {c : Config} {old new : AxisBits} (within : AxisBits.Within c old)
    (write : new = old ∨ ∃ d, new = d &&& c.axisMask) : AxisBits.Within c new := by
  rcases write with rfl | ⟨d, rfl⟩
  · exact within
  · exact within_axisMask c d

theorem RegisterAccess.maskParts {i : Instr} {s t : State} (access : RegisterAccess i s t) (parts : MaskParts s) :
    MaskParts t := by
  have frame := access.frame
  have host : HostWithin t := by
    cases access with
    | settings write =>
      obtain ⟨setStep, setDir, lock, stepInv, dirInv⟩ := parts.host
      rw [write.state]
      exact ⟨within_of_masked setStep write.stepInv, within_of_masked setDir write.dirInv, lock, stepInv, dirInv⟩
    | sysctl homing probe lock =>
      obtain ⟨setStep, setDir, -, stepInv, dirInv⟩ := parts.host
      exact ⟨setStep, setDir, within_axisMask _ _, stepInv, dirInv⟩
    | refused we => exact parts.host.of_frame (by constructor <;> simp)
    | _ => exact parts.host.of_frame (by constructor <;> rfl)
  obtain ⟨exec, -, step, dir, position⟩ := parts
  exact ⟨by rw [frame.cfg, frame.exec]; exact exec, host, by rw [frame.cfg, frame.lines]; exact step,
    by rw [frame.cfg, frame.lines]; exact dir, by rw [frame.cfg, frame.sysPosition]; exact position⟩

/-- Nothing is stored after power-on. -/
theorem maskParts_powerOn (c : Config) (n : Nat) : MaskParts (State.powerOn c n) where
  exec := .zero c
  host := ⟨within_zero c, within_zero c, within_zero c, within_zero c, within_zero c⟩
  step := within_zero c
  dir := within_zero c
  position := within_fill c

/-- Settles O47, by the kind of step. -/
theorem stepKeepsMaskInv : Obligations.StepKeepsMaskInv := by
  intro s t inv h
  rw [maskInv_iff] at inv ⊢
  obtain ⟨-, outcome⟩ := step_outcome h
  have entry : ∀ (rest : List Input) (n : Nat) (timer : TimerRegs),
      MaskParts { s with inputs := rest, time := n, timer := timer } := fun _ _ _ =>
    ⟨inv.exec, inv.host.of_frame (by constructor <;> rfl), inv.step, inv.dir, inv.position⟩
  cases outcome with
  | powerOn rest =>
    have parts := maskParts_powerOn s.cfg (s.epoch + 1)
    exact ⟨parts.exec, parts.host.of_frame (by constructor <;> rfl), parts.step, parts.dir, parts.position⟩
  | command c rest input outcome => exact outcome.maskParts (entry rest s.time s.timer)
  | access x rest i input word access => exact access.maskParts (entry rest s.time s.timer)
  | stopped rest => exact entry rest _ s.timer
  | tick rest running periodEnd same => exact MaskParts.tickHandler (same ▸ entry rest _ _)
  | preset rest =>
    have parts := entry rest (s.time + 1) { s.timer with tcnt := s.timer.tcnt + 1 }
    exact ⟨parts.exec, parts.host.of_frame (by constructor <;> rfl), within_axisMask _ _, parts.dir, parts.position⟩
  | count rest => exact entry rest _ _

/-! ## Power-on (70_reset_and_hazards R300) -/

/-- Settles O51: after power-on nothing is stored, bound or raised, and the timer has its defaults. -/
theorem powerOnMeetsTheInvariants : Obligations.PowerOnMeetsTheInvariants := by
  intro c n legal
  have slots := ((Config.legal_iff c).1 legal).2.1
  refine ⟨⟨?_, ?_, nofun⟩, blockInv_of_zero rfl, timerInv_of_default legal rfl,
    (maskInv_iff _).2 (maskParts_powerOn c n), memoryInv_of_empty rfl rfl, faultInv_of_sound rfl⟩
  all_goals
    show (0 : BitVec 8).toNat < c.nSeg
    simp
    omega

end Sys2Proof.Machine
end

section
/-! PROOFS. Power-on and rejected configurations, the wires, and the timer: its compare, its clock and its phase
(70_reset_and_hazards R300, 00_scope R5 to R8, 42_pulse_reset_and_timer R210 to R220). -/

namespace Sys2Proof.Machine

/-! ## Power-on (70_reset_and_hazards R300, 10_state R60) -/

/-- A step whose input is a power-on reset leads to the POR state of the same configuration. -/
theorem step_powerOn {s : State} {rest : List Input} (legal : s.cfg.legal = true)
    (input : s.inputs = .powerOn :: rest) :
    step s = .next { State.powerOn s.cfg (s.epoch + 1) with inputs := rest } := by
  rw [step_of_legal legal]
  simp [inputStep, takeInput, powerOnStep, input]

/-- The step timer of the reference configuration after power-on. -/
theorem timer_reset : State.reset.timer = ⟨0, 400, 300, false⟩ := by
  decide

/-- Settles O52. -/
theorem powerOnValues : Obligations.PowerOnValues :=
  ⟨rfl, rfl, rfl, rfl, rfl, rfl, rfl, rfl, rfl, timer_reset, rfl, rfl, fun _ => ⟨rfl, rfl⟩, fun _ _ => step_powerOn⟩

/-! ## Rejected configurations (00_scope R6 to R8) -/

/-- Settles O53: each clause contradicts a part of legality. -/
theorem badConfigurationRejected : Obligations.BadConfigurationRejected := by
  intro s bad
  have illegal : ¬ s.cfg.legal = true := by
    rw [Config.legal_iff]
    rintro ⟨-, ⟨slots, -⟩, ⟨levels, -⟩, -, -, least, most⟩
    rcases bad with few | none | ⟨rate, range⟩ | ⟨r, rate, range⟩
    · omega
    · omega
    all_goals
      simp only [Config.stepTimerMin, rate] at least most
      omega
  rw [step, if_neg illegal]

/-! ## The wires (42_pulse_reset_and_timer R220, R223) -/

/-- Settles O54: driven pins carry their latches, and so do the mirrored ones of an existing axis. -/
theorem mirroredLinesFollow : Obligations.MirroredLinesFollow := by
  intro s driven
  have wire := State.wireLevel_of_driven driven
  refine ⟨?_, ?_, ?_, ?_, wire _ _⟩
  · simp only [State.mirrorX, State.stepWire, State.dirWire, wire]
  · intro two
    have second : s.cfg.hasAxis 1 = true := decide_eq_true two
    simp only [State.mirrorY, State.mirrorLevel_of_axis second, State.stepWire, State.dirWire, wire]
  · unfold State.mirrorY
    cases s.cfg.dualY <;> simp
  · exact fun i => ⟨wire _ _, wire _ _⟩

/-! ## `PRESET` and the compare (42_pulse_reset_and_timer R210, R214) -/

/-- Settles O27. -/
theorem presetIdlesStepLines : Obligations.PresetIdlesStepLines := by
  intro s
  refine ⟨s.idleSteps, rfl, fun i axis => and_axisMask_bit axis s.stepInv, ?_⟩
  rw [← State.idleSteps_falls]
  rfl

/-- Settles O37. -/
theorem compareLiesInsideThePeriod : Obligations.CompareLiesInsideThePeriod := by
  refine ⟨compareOf_toNat, ?_, by decide, by decide, by decide, by decide, by decide⟩
  intro arr least
  rw [compareOf_toNat]
  omega

/-! ## One clock (42_pulse_reset_and_timer R213) -/

/-- A step that takes a timer clock, given or by default. -/
theorem step_clock {s : State} {rest : List Input} (legal : s.cfg.legal = true)
    (clock : s.inputs = .clk :: rest ∨ (s.inputs = [] ∧ rest = [])) : step s = clockStep { s with inputs := rest } := by
  rw [step_of_legal legal]
  rcases clock with input | ⟨input, rfl⟩ <;> simp [inputStep, takeInput, input]

/-- A clock of a stopped timer only passes. -/
theorem step_stopped {s : State} {rest : List Input} (legal : s.cfg.legal = true)
    (clock : s.inputs = .clk :: rest ∨ (s.inputs = [] ∧ rest = [])) (stopped : s.timer.run = false) :
    step s = .next { s with inputs := rest, time := s.time + 1 } := by
  rw [step_clock legal clock, clockStep, if_neg (by simp [stopped])]

/-- A clock of a running timer is the running clock, one clock later. -/
theorem step_running {s : State} {rest : List Input} (legal : s.cfg.legal = true)
    (clock : s.inputs = .clk :: rest ∨ (s.inputs = [] ∧ rest = [])) (running : s.timer.run = true) :
    step s = runningClock { s with inputs := rest, time := s.time + 1 } := by
  rw [step_clock legal clock, clockStep, if_pos running]

/-- Settles O56: at the period end the instruction is the segment decoded from slot `tail`, or `TICK` on an empty
ring. -/
theorem stepRunsTheTimerEvent : Obligations.StepRunsTheTimerEvent := by
  intro s rest legal clock
  refine ⟨step_stopped legal clock, ?_, ?_⟩
  · intro running periodEnd
    rw [step_running legal clock running, runningClock, if_pos periodEnd]
    have fetched := engineInstr_cases { s with inputs := rest, time := s.time + 1 }
    constructor
    · intro i busy dec
      cases dec
      rcases fetched with ⟨-, instr⟩ | ⟨idle, -⟩
      · rw [instr]
        rfl
      · simp only [State.hasSegment, State.isEmpty, Bool.or_eq_false_iff, Bool.not_eq_false', beq_iff_eq] at idle
        rcases busy with bound | live
        · exact absurd (idle.1.symm.trans bound) Bool.false_ne_true
        · exact absurd idle.2 live
    · intro idle empty
      rcases fetched with ⟨has, -⟩ | ⟨-, instr⟩
      · simp [State.hasSegment, State.isEmpty, idle, empty] at has
      · rw [instr]
  · intro running inside
    rw [step_running legal clock running, runningClock, if_neg inside]

/-! ## One period (42_pulse_reset_and_timer R213, R215) -/

/-- The state with the count at `k`, at clock `n`. -/
def State.atCount (s : State) (k n : Nat) : State :=
  { s with timer := { s.timer with tcnt := BitVec.ofNat 16 k }, time := n }

/-- What a machine with a running timer and nothing from outside does at count `k`. -/
theorem step_atCount {s : State} (legal : s.cfg.legal = true) (running : s.timer.run = true) (quiet : s.inputs = [])
    {k : Nat} (inside : k < s.timer.arr.toNat) (n : Nat) :
    step (s.atCount k n) =
      if k + 1 = s.timer.arr.toNat then
        exec .tick { s with timer := { s.timer with tcnt := 0 }, time := n + 1 }
      else if k + 1 = s.timer.ccr.toNat then exec .preset (s.atCount (k + 1) (n + 1))
      else .next (s.atCount (k + 1) (n + 1)) := by
  have width := s.timer.arr.isLt
  have next : BitVec.ofNat 16 k + 1 = BitVec.ofNat 16 (k + 1) := (BitVec.ofNat_add_ofNat k 1)
  have reached : ∀ v : Half, BitVec.ofNat 16 k + 1 = v ↔ k + 1 = v.toNat := by
    intro v
    rw [next, ← BitVec.toNat_inj, BitVec.toNat_ofNat, Nat.mod_eq_of_lt (by omega)]
  have clock : step (s.atCount k n) = runningClock (s.atCount k (n + 1)) := by
    rw [step_running (s := s.atCount k n) (rest := []) legal (.inr ⟨quiet, rfl⟩) running]
    exact congrArg runningClock (by rw [← quiet]; rfl)
  have counted : ({ s.atCount k (n + 1) with
      timer := { s.timer with tcnt := BitVec.ofNat 16 k + 1 } } : State) = s.atCount (k + 1) (n + 1) := by
    rw [next]
    rfl
  rw [clock, runningClock]
  exact if_congr (reached _) (exec_engineInstr _ _)
    (if_congr (reached _) (congrArg (exec .preset) counted) (congrArg Host.Outcome.next counted))

/-- A run whose first step has a next state goes on from it. -/
theorem run_of_step {s s' : State} (first : step s = .next s') (k : Nat) :
    Sys2Proof.core.run (k + 1) s = Sys2Proof.core.run k s' := by
  have taken : Sys2Proof.core.step s = .next s' := first
  simp only [Host.Core.run, taken]

/-- One more step of a run. -/
theorem run_succ {s t : State} {k : Nat} (h : Sys2Proof.core.run k s = .next t) :
    Sys2Proof.core.run (k + 1) s = step t := by
  induction k generalizing s with
  | zero =>
    rw [← show s = t from Host.Outcome.next.inj h]
    have answer : Sys2Proof.core.step s = step s := rfl
    simp only [Host.Core.run, answer]
    cases step s <;> rfl
  | succ k ih =>
    cases first : step s with
    | next s' =>
      rw [run_of_step first] at h ⊢
      exact ih h
    | fault r =>
      simp only [Host.Core.run, show Sys2Proof.core.step s = .fault r from first] at h
      cases h
    | refused r =>
      simp only [Host.Core.run, show Sys2Proof.core.step s = .refused r from first] at h
      cases h

/-- Between two events the count goes up by one a step: from count `a`, reached after `a` steps, to any count `b` with
no compare and no period end in between. -/
theorem run_counts {s u : State} (legal : u.cfg.legal = true) (running : u.timer.run = true) (quiet : u.inputs = [])
    {a b time : Nat} (start : Sys2Proof.core.run a s = .next (u.atCount a (time + a))) (le : a ≤ b)
    (inside : b < u.timer.arr.toNat) (noCompare : ∀ k, a < k → k ≤ b → k ≠ u.timer.ccr.toNat) :
    Sys2Proof.core.run b s = .next (u.atCount b (time + b)) := by
  induction b, le using Nat.le_induction with
  | base => exact start
  | succ k le ih =>
    have before := ih (by omega) fun j low high => noCompare j low (by omega)
    rw [run_succ before, step_atCount legal running quiet (by omega), if_neg (by omega),
      if_neg (noCompare (k + 1) (by omega) le_rfl)]
    rfl

/-- Settles O35: the count goes up to the compare, `PRESET` leaves timer and inputs, the count goes up to the period
end. -/
theorem periodIsOnePresetThenOneTick : Obligations.PeriodIsOnePresetThenOneTick := by
  intro s legal inv running zero quiet
  obtain ⟨arr, ccr, -⟩ := inv
  have least := ((Config.legal_iff s.cfg).1 legal).2.2.2.2.2
  have start : Sys2Proof.core.run 0 s = .next (s.atCount 0 (s.time + 0)) := by
    have same : s.atCount 0 (s.time + 0) = s := by
      rw [State.atCount, show BitVec.ofNat 16 0 = s.timer.tcnt from zero.symm]
      rfl
    rw [same]
    rfl
  have toCompare : ∀ k, k < s.timer.ccr.toNat → Sys2Proof.core.run k s = .next (s.atCount k (s.time + k)) :=
    fun k below => run_counts legal running quiet start (Nat.zero_le k) (by omega) (by omega)
  have compare : s.atCount s.timer.ccr.toNat (s.time + s.timer.ccr.toNat) =
      { s with timer := { s.timer with tcnt := s.timer.ccr }, time := s.time + s.timer.ccr.toNat } := by
    rw [State.atCount, BitVec.ofNat_toNat, BitVec.setWidth_eq]
  have preset : Sys2Proof.core.run s.timer.ccr.toNat s =
      .next ((s.atCount s.timer.ccr.toNat (s.time + s.timer.ccr.toNat)).idleSteps) := by
    obtain ⟨k, last⟩ : ∃ k, s.timer.ccr.toNat = k + 1 := ⟨s.timer.ccr.toNat - 1, by omega⟩
    rw [last, run_succ (toCompare k (by omega)), step_atCount legal running quiet (by omega), if_neg (by omega),
      if_pos last.symm]
    rfl
  generalize entry : (s.atCount s.timer.ccr.toNat (s.time + s.timer.ccr.toNat)).idleSteps = u at preset
  have cfg : u.cfg = s.cfg := by rw [← entry]; rfl
  have inputs : u.inputs = [] := by rw [← entry]; exact quiet
  have timer : u.timer = { s.timer with tcnt := BitVec.ofNat 16 s.timer.ccr.toNat } := by rw [← entry]; rfl
  have self : u.atCount s.timer.ccr.toNat (s.time + s.timer.ccr.toNat) = u := by
    rw [← entry]
    rfl
  have toEnd : ∀ k, s.timer.ccr.toNat ≤ k → k < s.timer.arr.toNat →
      Sys2Proof.core.run k s = .next (u.atCount k (s.time + k)) := by
    intro k from_ below
    refine run_counts (cfg ▸ legal) (by rw [timer]; exact running) inputs (self.symm ▸ preset) from_ ?_ ?_
    · rw [timer]
      exact below
    · intro j low _
      rw [timer]
      exact low.ne'
  refine ⟨toCompare, u, ?_, toEnd, ?_⟩
  · rw [← compare, ← entry]
    rfl
  · obtain ⟨k, last⟩ : ∃ k, s.timer.arr.toNat = k + 1 := ⟨s.timer.arr.toNat - 1, by omega⟩
    have final := step_atCount (s := u) (cfg ▸ legal) (by rw [timer]; exact running) inputs (k := k)
      (by rw [timer]; exact last ▸ Nat.lt_succ_self k) (s.time + k)
    rw [if_pos (by rw [timer]; exact last.symm)] at final
    rw [last, run_succ (toEnd k (by omega) (by omega)), final]
    rfl

/-! ## The phase (42_pulse_reset_and_timer R218) -/

/-- The phase speaks of the timer's count and compare. -/
theorem State.phase_congr {s t : State} (tcnt : t.timer.tcnt = s.timer.tcnt) (ccr : t.timer.ccr = s.timer.ccr) :
    t.phase = s.phase := by
  rw [State.phase, State.phase, tcnt, ccr]

theorem State.phase_of_lt {s : State} (below : s.timer.tcnt.toNat < s.timer.ccr.toNat) : s.phase = .beforeCmp :=
  if_pos below

theorem State.phase_of_ge {s : State} (reached : s.timer.ccr.toNat ≤ s.timer.tcnt.toNat) : s.phase = .afterCmp :=
  if_neg (not_lt.2 reached)

/-- The compare of a timer that meets its invariant is at least 3. -/
theorem State.TimerInv.compare_pos {s : State} (inv : s.TimerInv) (legal : s.cfg.legal = true) :
    0 < s.timer.ccr.toNat ∧ s.timer.ccr.toNat < s.timer.arr.toNat := by
  obtain ⟨arr, ccr, -⟩ := inv
  have least := ((Config.legal_iff s.cfg).1 legal).2.2.2.2.2
  omega

/-- At count 0 the compare is still to come. -/
theorem State.TimerInv.phase_of_zero {s : State} (inv : s.TimerInv) (legal : s.cfg.legal = true)
    (zero : s.timer.tcnt = 0) : s.phase = .beforeCmp := by
  refine State.phase_of_lt ?_
  rw [zero]
  exact (inv.compare_pos legal).1

/-- Inside a period the count goes up by one as a number. -/
theorem State.TimerInv.count_toNat {s : State} (inv : s.TimerInv) :
    (s.timer.tcnt + 1).toNat = s.timer.tcnt.toNat + 1 := by
  have width := s.timer.arr.isLt
  have inside := inv.2.2
  have one : (1 : Half).toNat = 1 := rfl
  rw [BitVec.toNat_add, one]
  omega

/-- The handler starts the next period's phase. -/
theorem State.tickHandler_phase {s : State} (legal : s.cfg.legal = true) (inv : s.TimerInv) (start : s.timer.tcnt = 0) :
    s.tickHandler.phase = .beforeCmp := by
  refine (State.tickHandler_timerInv legal inv start).phase_of_zero (s.tickHandler_cfg ▸ legal) ?_
  rcases s.tickHandler_timer with timer | timer | ⟨v, timer⟩ <;> rw [timer, ← start]

/-- A clock of a running timer: the compare moves the phase on, the period end moves it back, any other leaves it. -/
theorem phase_of_runningClock {s : State} (legal : s.cfg.legal = true) (inv : s.TimerInv) :
    ∃ u t : State, u = { s with timer := { s.timer with tcnt := u.timer.tcnt } } ∧ runningClock s = .next t ∧
      ((s.phase = .beforeCmp ∧ t.phase = .afterCmp ∧ runningClock s = exec .preset u ∧
          u.timer.tcnt = s.timer.tcnt + 1) ∨
        (s.phase = .afterCmp ∧ t.phase = .beforeCmp ∧ runningClock s = exec .tick u ∧ u.timer.tcnt = 0) ∨
        (t.phase = s.phase ∧ t = u ∧ u.timer.tcnt = s.timer.tcnt + 1)) := by
  have up := inv.count_toNat
  have compare := (inv.compare_pos legal).2
  rcases runningClock_cases s with ⟨periodEnd, clock⟩ | ⟨-, atCompare, clock⟩ | ⟨-, between, clock⟩
  · rw [exec_engineInstr] at clock
    refine ⟨{ s with timer := { s.timer with tcnt := 0 } }, _, rfl, clock, .inr (.inl ⟨?_, ?_, clock, rfl⟩)⟩
    · refine State.phase_of_ge ?_
      rw [periodEnd] at up
      omega
    · exact State.tickHandler_phase legal (inv.restart rfl rfl) rfl
  · refine ⟨{ s with timer := { s.timer with tcnt := s.timer.tcnt + 1 } }, _, rfl, clock,
      .inl ⟨?_, ?_, clock, rfl⟩⟩
    · refine State.phase_of_lt ?_
      rw [← atCompare, up]
      exact Nat.lt_succ_self _
    · exact State.phase_of_ge (Nat.le_of_eq (congrArg BitVec.toNat atCompare.symm))
  · refine ⟨{ s with timer := { s.timer with tcnt := s.timer.tcnt + 1 } }, _, rfl, clock, .inr (.inr ⟨?_, rfl, rfl⟩)⟩
    rw [← BitVec.toNat_inj.ne, up] at between
    simp only [State.phase, up]
    congr 1
    exact propext (by omega)

/-- The commands that set the first phase: `INIT`, `RESET` and a `WAKE` that starts the timer. -/
def Command.restarts (c : Command) (s : State) : Prop :=
  c = .init ∨ c = .reset ∨ (c = .wake ∧ s.timer.run = false ∧ s.flags.faultBadidx = false)

/-- A command that restarts the timer leads to the first phase. -/
theorem CommandOutcome.phase_of_restart {s t : State} {c : Command} (outcome : CommandOutcome s c t)
    (legal : s.cfg.legal = true) (inv : s.TimerInv) (restart : Command.restarts c s) : t.phase = .beforeCmp := by
  refine (outcome.timerInv legal inv).phase_of_zero (outcome.cfg ▸ legal) ?_
  rcases restart with rfl | rfl | ⟨rfl, stopped, sound⟩ <;> cases outcome
  case wakeRefused fault => exact absurd (sound.symm.trans fault) Bool.false_ne_true
  case wake => simp [stopped]
  all_goals rfl

/-- Any other command leaves the phase. -/
theorem CommandOutcome.phase_of_not_restart {s t : State} {c : Command} (outcome : CommandOutcome s c t)
    (other : ¬ Command.restarts c s) : t.phase = s.phase := by
  cases outcome with
  | init => exact absurd (.inl rfl) other
  | reset => exact absurd (.inr (.inl rfl)) other
  | disable ovr => exact State.phase_congr (by rw [State.disableSeq_timer]) (by rw [State.disableSeq_timer])
  | wake sound =>
    have running : s.timer.run = true := by
      by_contra stopped
      exact other (.inr (.inr ⟨rfl, Bool.not_eq_true _ ▸ stopped, sound⟩))
    exact State.phase_congr (by simp [running]) (by simp [running])
  | _ => rfl

/-- A register access leaves the phase. -/
theorem RegisterAccess.phase {i : Instr} {s t : State} (access : RegisterAccess i s t) : t.phase = s.phase :=
  State.phase_congr (by rw [access.frame.timer]) (by rw [access.frame.timer])

/-- A transaction that writes a command's word to `CMD` carries the command out. -/
theorem hostStep_command (c : Command) (s : State) :
    hostStep ⟨true, 0x000, encodeCommand c, .word⟩ s = .next (commandEffect c s) := by
  have dec : decode (.mmio true 0x000 (encodeCommand c)) = .ok (.stwCmd (encodeCommand c)) := rfl
  rw [hostStep_of_decode (x := ⟨true, 0x000, encodeCommand c, .word⟩) rfl dec, exec_stwCmd_encodeCommand, exec_toInstr]

/-- Every transaction has a next state. -/
theorem hostStep_next (x : HostTxn) (s : State) : ∃ t, hostStep x s = .next t := by
  unfold hostStep
  split
  · exact exec_next _ s
  · exact ⟨_, rfl⟩

/-- The transactions that set the first phase. -/
def HostTxn.restarts (x : HostTxn) (s : State) : Prop :=
  x.width = .word ∧ x.we = true ∧ x.addr = 0x000 ∧
    (x.data = 0x00000001 ∨ x.data = 0x00000004 ∨
      (x.data = 0x00000002 ∧ s.timer.run = false ∧ s.flags.faultBadidx = false))

/-- They are the writes of the commands that do. -/
theorem HostTxn.restarts_iff (x : HostTxn) (s : State) :
    x.restarts s ↔ ∃ c, x = ⟨true, 0x000, encodeCommand c, .word⟩ ∧ Command.restarts c s := by
  obtain ⟨we, addr, d, width⟩ := x
  constructor
  · rintro ⟨rfl, rfl, rfl, rfl | rfl | ⟨rfl, starts⟩⟩
    · exact ⟨.init, rfl, .inl rfl⟩
    · exact ⟨.reset, rfl, .inr (.inl rfl)⟩
    · exact ⟨.wake, rfl, .inr (.inr ⟨rfl, starts⟩)⟩
  · rintro ⟨c, word, rfl | rfl | ⟨rfl, starts⟩⟩ <;> cases word
    · exact ⟨rfl, rfl, rfl, .inl rfl⟩
    · exact ⟨rfl, rfl, rfl, .inr (.inl rfl)⟩
    · exact ⟨rfl, rfl, rfl, .inr (.inr ⟨rfl, starts⟩)⟩

/-- What a transaction does to the phase. -/
theorem hostStep_phase {s t : State} {x : HostTxn} (legal : s.cfg.legal = true) (inv : s.TimerInv)
    (h : hostStep x s = .next t) :
    (x.restarts s → t.phase = .beforeCmp) ∧ (¬ x.restarts s → t.phase = s.phase) := by
  rw [HostTxn.restarts_iff]
  constructor
  · rintro ⟨c, rfl, restart⟩
    rw [hostStep_command] at h
    cases h
    exact (commandOutcome c s).phase_of_restart legal inv restart
  · intro other
    rcases hostStep_kinds h with ⟨c, word, outcome⟩ | ⟨i, -, access⟩
    · exact outcome.phase_of_not_restart fun restart => other ⟨c, word, restart⟩
    · exact access.phase

/-- Settles O36: the running clock by its three events, transactions and instructions by whether they restart the
timer. -/
theorem timerRefinesPhaseAbstraction : Obligations.TimerRefinesPhaseAbstraction := by
  intro s rest legal inv
  have restart : ∀ c, Command.restarts c s → ∃ t, exec c.toInstr s = .next t ∧ t.phase = .beforeCmp :=
    fun c starts => ⟨_, exec_toInstr c s, (commandOutcome c s).phase_of_restart legal inv starts⟩
  refine ⟨?running, ?stopped, ?host, ?powerOn, ?wake, restart .init (.inl rfl),
    restart .reset (.inr (.inl rfl)), ?other⟩
  case running =>
    intro running clock
    rw [step_running legal clock running]
    obtain ⟨u, t, entry, next, events⟩ :=
      phase_of_runningClock (s := { s with inputs := rest, time := s.time + 1 }) legal inv
    exact ⟨u, t, entry, next, events⟩
  case stopped =>
    intro stopped clock
    exact ⟨_, step_stopped legal clock stopped, rfl, rfl⟩
  case host =>
    intro x input
    rw [step_host legal input]
    obtain ⟨t, next⟩ := hostStep_next x { s with inputs := rest }
    obtain ⟨first, kept⟩ := hostStep_phase (s := { s with inputs := rest }) legal inv next
    refine ⟨t, next, ?_⟩
    split
    case isTrue restarts => exact first restarts
    case isFalse others => exact kept others
  case powerOn =>
    intro input
    refine ⟨_, step_powerOn legal input, ?_⟩
    exact (timerInv_of_default (s := State.powerOn s.cfg 0) legal rfl).phase_of_zero legal rfl
  case wake =>
    intro stopped sound
    refine ⟨_, congrArg Host.Outcome.next (wakeEffect_eq sound), by simp [stopped], ?_⟩
    exact (CommandOutcome.wake sound).phase_of_restart legal inv (.inr (.inr ⟨rfl, stopped, sound⟩))
  case other =>
    intro i notTick notSeg notInit notInitWord notReset notResetWord notStart
    obtain ⟨t, h⟩ := exec_next i s
    refine ⟨t, h, ?_⟩
    rcases exec_kinds h with ⟨f, seg, -⟩ | ⟨tick, -⟩ | ⟨-, rfl⟩ | ⟨c, spelling, outcome⟩ | access
    · exact absurd seg (notSeg f)
    · exact absurd tick notTick
    · rfl
    · refine outcome.phase_of_not_restart ?_
      rintro (init | reset | ⟨rfl, starts⟩)
      · exact command_ne (k := .init) spelling notInit notInitWord init
      · exact command_ne (k := .reset) spelling notReset notResetWord reset
      · exact notStart ⟨spelling, starts⟩
    · exact access.phase

end Sys2Proof.Machine
end

section
/-! PROOFS. The family 41_see_tick: one tick of a segment, the fault, the shutdown, and the events of a tick. -/

namespace Sys2Proof.Machine

/-! ## One accumulator (41_see_tick R185) -/

/-- Above the event count an accumulator steps and gives the count back. -/
theorem bresenham_of_lt {counter increment sec : Word} (above : sec.toNat < (counter + increment).toNat) :
    bresenham counter increment sec = ⟨counter + increment - sec, true⟩ :=
  if_pos above

/-- Up to the event count an accumulator only adds. -/
theorem bresenham_of_le {counter increment sec : Word} (below : (counter + increment).toNat ≤ sec.toNat) :
    bresenham counter increment sec = ⟨counter + increment, false⟩ :=
  if_neg (not_lt.2 below)

/-! ## One axis in one tick (41_see_tick R185 to R187) -/

/-- The accumulator of an existing axis after a tick. -/
theorem State.runSegment_counter (f : Segment) {s : State} {i : Axis} (axis : i.val < s.cfg.nAxis) :
    (s.runSegment f).exec.counter.get i = (s.axisUpdate i).acc := by
  have hasAxis : s.cfg.hasAxis i = true := decide_eq_true axis
  simp [State.runSegment_exec, hasAxis]

/-- The step bit an axis leaves for the next tick: whether it stepped, unless homing locks it. -/
theorem State.runSegment_stepOutbits (f : Segment) {s : State} {i : Axis} (axis : i.val < s.cfg.nAxis)
    (consumed : s.exec.stepOutbits = 0) :
    (s.runSegment f).exec.stepOutbits.bit i =
      ((s.axisUpdate i).step && (!s.sysctl.homing || s.sysctl.homingLock.bit i)) := by
  have hasAxis : s.cfg.hasAxis i = true := decide_eq_true axis
  have steps : s.axisSteps i = (s.axisUpdate i).step := by rw [State.axisSteps, hasAxis, Bool.true_and]
  rw [State.runSegment_exec]
  simp only [State.decidedBits, consumed]
  cases s.sysctl.homing <;> simp [steps]

/-- The position of an existing axis after a tick: one unit on in the block's direction when it stepped, outside
backlash motion. -/
theorem State.runSegment_position (f : Segment) {s : State} {i : Axis} (axis : i.val < s.cfg.nAxis) :
    (s.runSegment f).sysPosition.get i =
      if (s.axisUpdate i).step && !f.backlashMotion then
        movePosition ((s.blkFlg s.exec.blockIndex.toNat).getLsbD i.val) (s.sysPosition.get i)
      else s.sysPosition.get i := by
  have hasAxis : s.cfg.hasAxis i = true := decide_eq_true axis
  rw [State.runSegment_sysPosition, AxisVec.get_ofFn, State.axisSteps, hasAxis, Bool.true_and,
    State.blkDirBits_bit s _ hasAxis]

/-- An axis whose sum is above the event count: it steps. -/
theorem State.runSegment_axis_of_lt (f : Segment) {s : State} {i : Axis} (axis : i.val < s.cfg.nAxis)
    (consumed : s.exec.stepOutbits = 0)
    (above : (s.blkSec s.exec.blockIndex.toNat).toNat < (s.exec.counter.get i + s.exec.steps.get i).toNat) :
    (s.runSegment f).exec.counter.get i =
        s.exec.counter.get i + s.exec.steps.get i - s.blkSec s.exec.blockIndex.toNat ∧
      (s.runSegment f).exec.stepOutbits.bit i = (!s.sysctl.homing || s.sysctl.homingLock.bit i) ∧
      (s.runSegment f).sysPosition.get i =
        if f.backlashMotion then s.sysPosition.get i
        else if (s.blkFlg s.exec.blockIndex.toNat).getLsbD i.val then s.sysPosition.get i - 1
        else s.sysPosition.get i + 1 := by
  have update : s.axisUpdate i = _ := bresenham_of_lt above
  rw [State.runSegment_counter f axis, State.runSegment_stepOutbits f axis consumed, State.runSegment_position f axis,
    update]
  refine ⟨rfl, Bool.true_and _, ?_⟩
  cases f.backlashMotion <;> rfl

/-- An axis whose sum is at most the event count: it stays. -/
theorem State.runSegment_axis_of_le (f : Segment) {s : State} {i : Axis} (axis : i.val < s.cfg.nAxis)
    (consumed : s.exec.stepOutbits = 0)
    (below : (s.exec.counter.get i + s.exec.steps.get i).toNat ≤ (s.blkSec s.exec.blockIndex.toNat).toNat) :
    (s.runSegment f).exec.counter.get i = s.exec.counter.get i + s.exec.steps.get i ∧
      (s.runSegment f).exec.stepOutbits.bit i = false ∧
      (s.runSegment f).sysPosition.get i = s.sysPosition.get i := by
  have update : s.axisUpdate i = _ := bresenham_of_le below
  rw [State.runSegment_counter f axis, State.runSegment_stepOutbits f axis consumed, State.runSegment_position f axis,
    update]
  exact ⟨rfl, Bool.false_and _, rfl⟩

/-- The line of an existing axis after Phase A: active where a step was decided, else as it was (41_see_tick R171). -/
theorem State.phaseA_step_bit {s : State} {i : Axis} (axis : i.val < s.cfg.nAxis) :
    s.phaseA.lines.step.bit i = if s.exec.stepOutbits.bit i then !s.stepInv.bit i else s.lines.step.bit i := by
  rw [State.phaseA_eq]
  simp only [and_axisMask_bit axis, AxisBits.bit_or, AxisBits.bit_and, AxisBits.bit_not]
  cases s.exec.stepOutbits.bit i <;> simp

/-! ## The events of each part of a tick -/

/-- The events of Phase A (41_see_tick R171). -/
theorem State.phaseA_events (s : State) : eventsOf s.phaseA.trace = eventsOf s.trace ++ s.decidedRises := by
  rw [State.phaseA_rises, eventsOf_append, eventsOf_stamped]

/-- The events of one tick of a bound segment (41_see_tick R188). -/
theorem State.runSegment_events (f : Segment) (s : State) :
    eventsOf (s.runSegment f).trace = eventsOf s.trace ++ s.probeEvents := by
  rw [State.runSegment_trace, State.probeEvents]
  split
  · rw [eventsOf_append]
    rfl
  · rw [List.append_nil]

/-- A block is new when none is bound or its index differs (41_see_tick R180). -/
theorem isNewBlock_iff (e : ExecState) (f : Segment) :
    isNewBlock e f = true ↔ (e.blockValid = false ∨ f.stBlockIndex ≠ e.blockIndex) := by
  simp [isNewBlock]

/-- The direction changes of a new block, as the loop over the axes makes them (41_see_tick R182). -/
theorem State.directionChanges_eq (s : State) (b : Nat) :
    (s.cfg.axes.flatMap fun i => s.dirEvent i ((s.blkDirBits b ^^^ s.dirInv).bit i)) = s.directionChanges b := by
  have level : ∀ i ∈ s.cfg.axes,
      (s.blkDirBits b ^^^ s.dirInv).bit i = ((s.blkFlg b).getLsbD i.val ^^ s.dirInv.bit i) := by
    intro i mem
    rw [AxisBits.bit_xor, State.blkDirBits_bit s b ((s.cfg.mem_axes i).1 mem)]
  have change : ∀ i l, s.dirEvent i l = if s.lines.dir.bit i != l then [OutEvent.dirSet i l] else [] := by
    intro i l
    by_cases same : s.lines.dir.bit i = l <;> simp [State.dirEvent, same]
  rw [State.directionChanges, ← flatMap_single]
  refine List.flatMap_congr fun i mem => ?_
  rw [level i mem, change]

/-- The events of loading a segment (41_see_tick R182, R184). -/
theorem State.loadSegment_events (f : Segment) (s : State) :
    eventsOf (s.loadSegment f).trace =
      eventsOf s.trace ++
        ((if s.exec.blockValid = false ∨ f.stBlockIndex ≠ s.exec.blockIndex
            then s.directionChanges f.stBlockIndex.toNat else []) ++ [.spindleWrite f.spindlePwm]) := by
  rw [State.loadSegment_trace, eventsOf_append, eventsOf_stamped, State.directionChanges_eq]
  simp only [isNewBlock_iff]

/-- The events of the engine fault (60_exceptions R276). -/
theorem State.takeFault_events (s : State) :
    eventsOf s.takeFault.trace =
      eventsOf s.trace ++ (s.cfg.axes.filter fun i => s.stepActive i).map OutEvent.stepFall := by
  rw [State.takeFault_eq]
  exact State.idleSteps_events (s.wait s.lastPulseClocks)

/-- The events of the ring-empty shutdown (41_see_tick R174, R175). -/
theorem State.shutdown_events (s : State) :
    eventsOf s.shutdown.trace =
      eventsOf s.trace ++
        ((s.cfg.axes.filter fun i => s.stepActive i).map OutEvent.stepFall ++
          [.enSet (s.dwells ^^ s.settings.invertStEnable)] ++
          (if s.lastBlockAdjusted then [.spindleWrite s.cfg.spindlePwmOff] else []) ++ [.cycleStop]) := by
  rw [State.shutdown_eq]
  simp only [eventsOf_append, eventsOf_stamped, State.disableSeq_events, Bool.or_false, List.append_assoc]
  rfl

/-! ## A tick of a bound segment (41_see_tick R171, R172, R185 to R189) -/

/-- The last tick of a segment retires it (41_see_tick R189). -/
theorem State.runSegment_last (f : Segment) {s : State} (last : s.exec.stepCount = 1) :
    (s.runSegment f).exec.segValid = false ∧ (s.runSegment f).tail = nextIndex s.cfg s.tail := by
  have done : s.exec.stepCount - 1 = 0 := by rw [last]; rfl
  constructor
  · rw [State.runSegment_exec]
    exact if_pos done
  · rw [State.runSegment_tail, if_pos done]

/-- Any other tick keeps the segment bound (41_see_tick R189). -/
theorem State.runSegment_more (f : Segment) {s : State} (more : s.exec.stepCount ≠ 1) :
    (s.runSegment f).exec.segValid = s.exec.segValid ∧ (s.runSegment f).tail = s.tail := by
  have left : ¬ s.exec.stepCount - 1 = 0 := by rwa [sub_eq_zero]
  constructor
  · rw [State.runSegment_exec]
    exact if_neg left
  · rw [State.runSegment_tail, if_neg left]

/-- What one tick of a segment writes, and that it writes nothing else. -/
theorem State.runSegment_frame (f : Segment) (s : State) :
    s.runSegment f = { s with
      exec := (s.runSegment f).exec, tail := (s.runSegment f).tail, sysPosition := (s.runSegment f).sysPosition
      trace := (s.runSegment f).trace } := by
  apply State.ext <;> simp

/-- Settles O22: Phase A, then one tick of the segment, axis by axis. -/
theorem boundSegmentTick : Obligations.BoundSegmentTick := by
  intro f s legal bound
  refine ⟨_, exec_seg_of_bound bound f, ?axes, ?last, ?more, ?events, ?exec, ?frame⟩
  case axes =>
    intro i axis
    refine ⟨State.runSegment_axis_of_lt f (s := s.phaseA) axis rfl,
      State.runSegment_axis_of_le f (s := s.phaseA) axis rfl, ?_⟩
    rw [State.runSegment_lines, State.phaseA_step_bit axis]
  case last =>
    intro last
    obtain ⟨retired, tail⟩ := State.runSegment_last f (s := s.phaseA) last
    exact ⟨retired, tail ▸ nextIndex_toNat legal s.tail⟩
  case more =>
    intro more
    obtain ⟨valid, tail⟩ := State.runSegment_more f (s := s.phaseA) more
    exact ⟨valid.trans bound, tail⟩
  case events =>
    rw [State.runSegment_events, State.phaseA_events, List.append_assoc]
    rfl
  case exec =>
    rw [State.runSegment_exec]
    rfl
  case frame =>
    have lines : (s.phaseA.runSegment f).lines = s.phaseA.lines := State.runSegment_lines f _
    rw [lines]
    exact State.runSegment_frame f s.phaseA

/-! ## The tick that loads a segment (41_see_tick R177, R179 to R184) -/

/-- Loading a segment writes no pool word. -/
@[simp] theorem State.loadSegment_blkSec (f : Segment) (s : State) (b : Nat) :
    (s.loadSegment f).blkSec b = s.blkSec b := by
  simp [State.blkSec, State.poolWord]

@[simp] theorem State.loadSegment_blkFlg (f : Segment) (s : State) (b : Nat) :
    (s.loadSegment f).blkFlg b = s.blkFlg b := by
  simp [State.blkFlg, State.poolWord]

/-- The bound block after a load is the segment's. -/
theorem State.loadSegment_blockIndex (f : Segment) (s : State) :
    (s.loadSegment f).exec.blockIndex = f.stBlockIndex := by
  rw [State.loadSegment_exec]

/-- The accumulator of an existing axis after a load: half the event count for a new block (41_see_tick R181). -/
theorem State.loadSegment_counter (f : Segment) {s : State} {i : Axis} (axis : i.val < s.cfg.nAxis) :
    (s.loadSegment f).exec.counter.get i =
      if s.exec.blockValid = false ∨ f.stBlockIndex ≠ s.exec.blockIndex then s.blkSec f.stBlockIndex.toNat >>> 1
      else s.exec.counter.get i := by
  have hasAxis : s.cfg.hasAxis i = true := decide_eq_true axis
  rw [State.loadSegment_exec, ← if_congr (isNewBlock_iff s.exec f) rfl rfl]
  cases isNewBlock s.exec f <;> simp [hasAxis]

/-- The increment of an existing axis after a load (41_see_tick R183). -/
theorem State.loadSegment_steps (f : Segment) {s : State} {i : Axis} (axis : i.val < s.cfg.nAxis) :
    (s.loadSegment f).exec.steps.get i = s.blkSteps f.stBlockIndex.toNat i.val >>> f.amassLevel.toNat := by
  have hasAxis : s.cfg.hasAxis i = true := decide_eq_true axis
  simp [State.loadSegment_exec, hasAxis]

/-- The direction bit and line of an existing axis after a load: the block's for a new one (41_see_tick R182). -/
theorem State.loadSegment_directions (f : Segment) {s : State} {i : Axis} (axis : i.val < s.cfg.nAxis) :
    ((s.exec.blockValid = false ∨ f.stBlockIndex ≠ s.exec.blockIndex) →
      (s.loadSegment f).exec.dirOutbits.bit i =
          ((s.blkFlg f.stBlockIndex.toNat).getLsbD i.val ^^ s.dirInv.bit i) ∧
        (s.loadSegment f).lines.dir.bit i = ((s.blkFlg f.stBlockIndex.toNat).getLsbD i.val ^^ s.dirInv.bit i)) ∧
    (¬ (s.exec.blockValid = false ∨ f.stBlockIndex ≠ s.exec.blockIndex) →
      (s.loadSegment f).exec.dirOutbits.bit i = s.exec.dirOutbits.bit i ∧
        (s.loadSegment f).lines.dir.bit i = s.lines.dir.bit i) := by
  have hasAxis : s.cfg.hasAxis i = true := decide_eq_true axis
  rw [← isNewBlock_iff, State.loadSegment_exec, State.loadSegment_lines]
  constructor
  · intro new
    rw [if_pos new]
    simp [new, hasAxis, State.blkDirBits_bit s _ hasAxis]
  · intro old
    rw [if_neg old]
    simp [old]

/-- `SEG` with nothing bound and an index that names a pool entry: Phase A, the load, one tick. -/
theorem exec_seg_of_loading {s : State} {f : Segment} (idle : s.exec.segValid = false)
    (inPool : f.stBlockIndex.toNat < s.cfg.nBlk) :
    exec (.seg f) s = .next ((s.phaseA.loadSegment f).runSegment f) := by
  have tick : s.segmentTick f = (s.phaseA.loadSegment f).runSegment f := by
    rcases s.segmentTick_cases f with ⟨bound, -⟩ | ⟨-, bad, -⟩ | ⟨-, -, tick⟩
    · exact absurd (idle.symm.trans bound) Bool.false_ne_true
    · exact absurd inPool (not_lt.2 bad)
    · exact tick
  exact congrArg Host.Outcome.next tick

/-- `SEG` with nothing bound and an index that names no pool entry: Phase A and the fault. -/
theorem exec_seg_of_bad {s : State} {f : Segment} (idle : s.exec.segValid = false)
    (bad : s.cfg.nBlk ≤ f.stBlockIndex.toNat) : exec (.seg f) s = .next s.phaseA.takeFault := by
  have tick : s.segmentTick f = s.phaseA.takeFault := by
    rcases s.segmentTick_cases f with ⟨bound, -⟩ | ⟨-, -, tick⟩ | ⟨-, inPool, -⟩
    · exact absurd (idle.symm.trans bound) Bool.false_ne_true
    · exact tick
    · exact absurd inPool (not_lt.2 bad)
  exact congrArg Host.Outcome.next tick

/-- What the tick that loads a segment writes, and that it writes nothing else. -/
theorem State.loadingTick_frame (f : Segment) {s t : State} (tick : t = (s.phaseA.loadSegment f).runSegment f) :
    t = { s with
      exec := t.exec, tail := t.tail, sysPosition := t.sysPosition, timer := t.timer
      lines := { s.lines with step := t.lines.step, dir := t.lines.dir }
      spindlePwmOut := t.spindlePwmOut, trace := t.trace } := by
  have lines : t.lines = { s.lines with step := t.lines.step, dir := t.lines.dir } := by
    rw [tick, State.runSegment_lines, State.loadSegment_lines]
    split <;> rfl
  apply State.ext
  case lines => exact lines
  all_goals simp [tick]

/-- The events of the tick that loads a segment. -/
theorem State.loadingTick_events (f : Segment) (s : State) :
    eventsOf ((s.phaseA.loadSegment f).runSegment f).trace = eventsOf s.trace ++
      (s.decidedRises ++
        (if s.exec.blockValid = false ∨ f.stBlockIndex ≠ s.exec.blockIndex
          then s.directionChanges f.stBlockIndex.toNat else []) ++
        [.spindleWrite f.spindlePwm] ++ s.probeEvents) := by
  have probe : (s.phaseA.loadSegment f).probeEvents = s.probeEvents := by simp [State.probeEvents]
  rw [State.runSegment_events, State.loadSegment_events, State.phaseA_events, probe]
  simp only [List.append_assoc]
  rfl

/-- Settles O23: Phase A, the load, then one tick of the segment, axis by axis. -/
theorem loadingSegmentTick : Obligations.LoadingSegmentTick := by
  intro f s legal idle inPool
  have timer : ((s.phaseA.loadSegment f).runSegment f).timer = _ :=
    (State.runSegment_timer f _).trans (State.loadSegment_timer f _)
  have lines : ((s.phaseA.loadSegment f).runSegment f).lines = (s.phaseA.loadSegment f).lines :=
    State.runSegment_lines f _
  have stepLines : (s.phaseA.loadSegment f).lines.step = s.phaseA.lines.step := by
    rw [State.loadSegment_lines]
    split <;> rfl
  have loaded := State.loadSegment_exec f s.phaseA
  have exec := State.runSegment_exec f (s.phaseA.loadSegment f)
  refine ⟨_, exec_seg_of_loading idle inPool, ?arr, ?ccr, ?timer, ?spindle, ?index, ?valid, ?count, ?last, ?more, ?axes,
    ?events, ?frame⟩
  case arr =>
    rw [timer]
    exact clampReload_toNat legal _
  case ccr =>
    rw [timer]
    exact compareOf_toNat _
  case timer =>
    rw [timer]
    rfl
  case spindle => exact State.runSegment_spindlePwmOut f _
  case index => rw [exec, loaded]
  case valid => rw [exec, loaded]
  case count => rw [exec, loaded]
  case last =>
    intro last
    obtain ⟨retired, tail⟩ := State.runSegment_last f (s := s.phaseA.loadSegment f) (by rw [loaded, last])
    rw [State.loadSegment_cfg, State.loadSegment_tail] at tail
    exact ⟨retired, tail ▸ nextIndex_toNat legal s.tail⟩
  case more =>
    intro more
    have goes := State.runSegment_more f (s := s.phaseA.loadSegment f) (by rwa [loaded])
    simpa [loaded] using goes
  case axes =>
    intro i axis
    have here : i.val < (s.phaseA.loadSegment f).cfg.nAxis := by simpa using axis
    have consumed : (s.phaseA.loadSegment f).exec.stepOutbits = 0 := by rw [loaded]; rfl
    have index := State.loadSegment_blockIndex f s.phaseA
    have counter := State.loadSegment_counter f (s := s.phaseA) axis
    have increment := State.loadSegment_steps f (s := s.phaseA) axis
    have steps := State.runSegment_axis_of_lt f here consumed
    have stays := State.runSegment_axis_of_le f here consumed
    rw [index, counter, increment, State.loadSegment_blkSec] at steps stays
    simp only [State.loadSegment_blkFlg, State.loadSegment_sysctl, State.loadSegment_sysPosition] at steps stays
    have kept : ((s.phaseA.loadSegment f).runSegment f).exec.steps = (s.phaseA.loadSegment f).exec.steps := by rw [exec]
    have dirs : ((s.phaseA.loadSegment f).runSegment f).exec.dirOutbits = (s.phaseA.loadSegment f).exec.dirOutbits := by
      rw [exec]
    obtain ⟨new, old⟩ := State.loadSegment_directions f (s := s.phaseA) axis
    rw [kept, dirs, lines, stepLines, State.phaseA_step_bit axis]
    exact ⟨increment, steps, stays, new, old, rfl⟩
  case events => exact s.loadingTick_events f
  case frame => exact State.loadingTick_frame f rfl

/-! ## The fault (60_exceptions R276) and the shutdown (41_see_tick R174, R175) -/

/-- Idling the lines right after Phase A drops the lines it raised and those left active. -/
theorem State.fallsAfterPhaseA_eq (s : State) :
    (s.phaseA.cfg.axes.filter fun i => s.phaseA.stepActive i).map OutEvent.stepFall = s.fallsAfterPhaseA :=
  s.phaseA_falls

/-- The events of a tick that takes the fault. -/
theorem State.faultTick_events (s : State) :
    eventsOf s.phaseA.takeFault.trace = eventsOf s.trace ++ (s.decidedRises ++ s.fallsAfterPhaseA) := by
  rw [State.takeFault_events, State.phaseA_events, State.fallsAfterPhaseA_eq, List.append_assoc]

/-- The events of a tick on an empty ring. -/
theorem State.emptyTick_events (s : State) :
    eventsOf s.phaseA.shutdown.trace = eventsOf s.trace ++
      (s.decidedRises ++ s.fallsAfterPhaseA ++ [.enSet (s.dwells ^^ s.settings.invertStEnable)] ++
        (if s.lastBlockAdjusted then [.spindleWrite s.cfg.spindlePwmOff] else []) ++ [.cycleStop]) := by
  rw [State.shutdown_events, State.phaseA_events, State.fallsAfterPhaseA_eq]
  simp only [List.append_assoc]
  rfl

/-- A faulted state shows `STATUS.FAULT`, bit 5 (10_state R36). -/
theorem State.statusWord_fault {s : State} (fault : s.flags.faultBadidx = true) : s.statusWord.getLsbD 5 = true := by
  simp (disch := decide) only [State.statusWord, BitVec.getLsbD_or, bitAt_getLsbD, fault]
  simp

/-- Settles O24. -/
theorem badIndexTakesTheFault : Obligations.BadIndexTakesTheFault := by
  intro f s idle bad
  have whole := State.takeFault_eq s.phaseA
  refine ⟨_, exec_seg_of_bad idle bad, ?_, s.faultTick_events, ⟨_, rfl, ?_⟩, ?_⟩
  · intro i axis
    rw [whole]
    exact and_axisMask_bit axis s.stepInv
  · exact State.statusWord_fault (by rw [whole])
  · rw [whole]
    rfl

/-- Settles O25. -/
theorem emptyRingTickShutsDown : Obligations.EmptyRingTickShutsDown := by
  intro s idle empty
  have tick : s.tickHandler = s.phaseA.shutdown := by
    have nothing : ¬ s.hasSegment = true := by simp [State.hasSegment, State.isEmpty, idle, empty]
    exact if_neg nothing
  have adjusted : s.phaseA.lastBlockAdjusted = true ↔
      (s.exec.blockValid = true ∧ s.blkAdjusted s.exec.blockIndex.toNat = true) := by
    rw [← Bool.and_eq_true]
    rfl
  have whole := State.shutdown_eq s.phaseA
  rw [State.disableSeq_eq] at whole
  refine ⟨s.phaseA.shutdown, s.dwells, congrArg Host.Outcome.next tick, s.dwells_iff, ?_, ⟨?_, ?_⟩, ?_⟩
  · intro i axis
    rw [whole]
    exact and_axisMask_bit axis s.stepInv
  · rw [whole]
    exact if_congr adjusted rfl rfl
  · rw [State.emptyTick_events]
    congr 3
    exact if_congr adjusted rfl rfl
  · rw [whole]
    simp only [Bool.or_false]
    rfl

/-! ## The events of a whole tick (41_see_tick R170 to R174, R188) -/

/-- Settles O26. -/
theorem tickExecutesTheSegmentAtTail : Obligations.TickExecutesTheSegmentAtTail := by
  intro s busy
  have has : s.hasSegment = true := by
    rcases busy with bound | live
    · simp [State.hasSegment, bound]
    · simp [State.hasSegment, State.isEmpty, live]
  have tick : s.tickHandler = s.segmentTick (s.segment s.tail) := if_pos has
  exact congrArg Host.Outcome.next tick

/-- The handler runs a segment: one is bound, or the one at `tail` names a pool entry (41_see_tick R173, R178). -/
def State.runsSegment (s : State) : Prop :=
  s.exec.segValid = true ∨ (s.head ≠ s.tail ∧ (s.segment s.tail).stBlockIndex.toNat < s.cfg.nBlk)

/-- The events of a tick after those of Phase A: no rise on any path, and the probe strobe where a segment runs. -/
theorem State.tickHandler_events (s : State) :
    ∃ es, eventsOf s.tickHandler.trace = eventsOf s.trace ++ (s.decidedRises ++ es) ∧ (∀ i, .stepRise i ∉ es) ∧
      ((s.runsSegment ∧ es.count .probePoll = s.probeEvents.count .probePoll) ∨
        (¬ s.runsSegment ∧ OutEvent.probePoll ∉ es)) := by
  have noRise : ∀ i, OutEvent.stepRise i ∉ s.probeEvents := by
    intro i
    unfold State.probeEvents
    split <;> simp
  rcases State.tickHandler_cases s with ⟨has, tick⟩ | ⟨idle, empty, tick⟩ <;> rw [tick]
  · rcases State.segmentTick_cases (s.segment s.tail) s with ⟨bound, tick⟩ | ⟨idle, bad, tick⟩ |
      ⟨idle, inPool, tick⟩ <;> rw [tick]
    · refine ⟨s.probeEvents, ?_, noRise, .inl ⟨.inl bound, rfl⟩⟩
      rw [State.runSegment_events, State.phaseA_events, List.append_assoc]
      rfl
    · refine ⟨s.fallsAfterPhaseA, s.faultTick_events, ?_, .inr ⟨?_, ?_⟩⟩
      · simp [State.fallsAfterPhaseA]
      · rintro (bound | ⟨-, inPool⟩)
        · exact Bool.false_ne_true (idle.symm.trans bound)
        · exact not_lt.2 bad inPool
      · simp [State.fallsAfterPhaseA]
    · have live : s.head ≠ s.tail := by simpa [State.hasSegment, State.isEmpty, idle] using has
      have events := s.loadingTick_events (s.segment s.tail)
      rw [List.append_assoc, List.append_assoc] at events
      refine ⟨_, events, ?_, .inl ⟨.inr ⟨live, inPool⟩, ?_⟩⟩
      · intro i
        split <;> simp [State.directionChanges, noRise]
      · split <;> simp [State.directionChanges, List.count_eq_zero]
  · have events := s.emptyTick_events
    rw [List.append_assoc, List.append_assoc, List.append_assoc] at events
    refine ⟨_, events, ?_, .inr ⟨?_, ?_⟩⟩
    · intro i
      split <;> simp [State.fallsAfterPhaseA]
    · rintro (bound | ⟨live, -⟩)
      · exact Bool.false_ne_true (idle.symm.trans bound)
      · exact live empty
    · split <;> simp [State.fallsAfterPhaseA]

/-- The new entries of the trace after a tick hold Phase A's rises and the rest of its events. -/
theorem State.tickHandler_entries (s : State) :
    ∃ (added : List TraceEntry) (es : List OutEvent), s.tickHandler.trace = s.trace ++ added ∧
      (∀ e, countEvent e added = s.decidedRises.count e + es.count e) ∧ (∀ i, .stepRise i ∉ es) ∧
      ((s.runsSegment ∧ es.count .probePoll = s.probeEvents.count .probePoll) ∨
        (¬ s.runsSegment ∧ OutEvent.probePoll ∉ es)) := by
  obtain ⟨es, events, rises, strobe⟩ := s.tickHandler_events
  obtain ⟨-, added, trace, -⟩ := s.tickHandler_grows
  rw [trace, eventsOf_append, List.append_cancel_left_eq] at events
  refine ⟨added, es, trace, fun e => ?_, rises, strobe⟩
  have count : countEvent e added = (eventsOf added).count e := by
    simp only [countEvent, eventsOf, List.count, List.countP_map, Function.comp_def]
  rw [count, events, List.count_append]

/-- How often Phase A raises the line of axis `i`. -/
theorem State.count_decidedRises (s : State) (i : Axis) :
    s.decidedRises.count (.stepRise i) =
      if decide (i.val < s.cfg.nAxis) && s.exec.stepOutbits.bit i && !s.stepActive i then 1 else 0 := by
  have injective : Function.Injective OutEvent.stepRise := fun _ _ same => OutEvent.stepRise.inj same
  have nodup : (s.cfg.axes.filter fun i => s.exec.stepOutbits.bit i && !s.stepActive i).Nodup :=
    (List.Nodup.filter _ (by decide)).filter _
  rw [State.decidedRises, List.count_map_of_injective _ _ injective, List.Nodup.count nodup]
  simp [Config.hasAxis, and_assoc]

/-- Settles O28. -/
theorem tickRaisesTheDecidedSteps : Obligations.TickRaisesTheDecidedSteps := by
  intro s t h
  cases h
  obtain ⟨added, es, trace, count, rises, -⟩ := s.tickHandler_entries
  refine ⟨added, trace, fun i => ?_⟩
  rw [count, s.count_decidedRises, List.count_eq_zero.2 (rises i), Nat.add_zero]

/-- Settles O29. -/
theorem probeStrobeOncePerTick : Obligations.ProbeStrobeOncePerTick := by
  intro s t h
  cases h
  obtain ⟨added, es, trace, count, -, strobe⟩ := s.tickHandler_entries
  refine ⟨added, trace, ?_⟩
  have noRise : s.decidedRises.count .probePoll = 0 := by simp [State.decidedRises, List.count_eq_zero]
  rw [count, noRise, Nat.zero_add]
  rcases strobe with ⟨runs, probes⟩ | ⟨idle, none⟩
  · rw [probes, State.probeEvents]
    unfold State.runsSegment at runs
    cases s.sysctl.probeActive <;> simp [runs]
  · rw [List.count_eq_zero.2 none, if_neg fun both => idle both.2]

end Sys2Proof.Machine
end

section
/-! PROOFS. Runs of the engine: the tracer's arithmetic, the ticks of a segment, and step conservation
(41_see_tick sections 6 and 7, R189, R190, R195). -/

namespace Sys2Proof.Machine

/-! ## The tracer's arithmetic (41_see_tick R185, R191, R193, R195) -/

/-- Half an event count as a number. -/
theorem half_toNat (sec : Word) : (sec >>> 1).toNat = sec.toNat / 2 := by
  rw [BitVec.toNat_ushiftRight, Nat.shiftRight_eq_div_pow, Nat.pow_one]

/-- One update of a well-formed accumulator is exact and keeps it in `1..sec`. -/
theorem bresenham_balance {c inc sec : Word} (le : inc.toNat ≤ sec.toNat) (bound : sec.toNat < 2 ^ 31)
    (low : 1 ≤ c.toNat) (high : c.toNat ≤ sec.toNat) :
    (bresenham c inc sec).acc.toNat + (if (bresenham c inc sec).step then sec.toNat else 0) = c.toNat + inc.toNat ∧
      1 ≤ (bresenham c inc sec).acc.toNat ∧ (bresenham c inc sec).acc.toNat ≤ sec.toNat := by
  have sum : (c + inc).toNat = c.toNat + inc.toNat := by
    rw [BitVec.toNat_add]
    omega
  by_cases above : sec.toNat < (c + inc).toNat
  · rw [bresenham_of_lt above, BitVec.toNat_sub_of_le (BitVec.le_def.2 above.le)]
    simp only [if_true]
    omega
  · rw [bresenham_of_le (not_lt.1 above)]
    simp only [Bool.false_eq_true, if_false]
    omega

/-- Settles O30. -/
theorem accumulatorStaysInRange : Obligations.AccumulatorStaysInRange := by
  refine ⟨?half, ?general, fun c inc sec => bresenham_balance⟩
  case half =>
    intro sec
    rw [half_toNat]
    omega
  case general =>
    intro c inc sec
    rw [← BitVec.toNat_add]
    by_cases above : sec.toNat < (c + inc).toNat
    · have exact_ : (c + inc - sec).toNat = (c + inc).toNat - sec.toNat :=
        BitVec.toNat_sub_of_le (BitVec.le_def.2 above.le)
      rw [bresenham_of_lt above]
      exact ⟨(decide_eq_true above).symm, nofun, fun _ => by rw [exact_]; exact Nat.sub_add_cancel above.le⟩
    · rw [bresenham_of_le (not_lt.1 above)]
      exact ⟨(decide_eq_false above).symm, fun _ => rfl, nofun⟩

/-- Settles O32, by induction on the ticks: each update balances, so the run does. -/
theorem tracerRunBalances : Obligations.TracerRunBalances := by
  intro n
  induction n with
  | zero =>
    intro c inc sec _ _ low high
    simp [bresenhamRun, low, high]
  | succ n ih =>
    intro c inc sec le bound low high
    obtain ⟨balance, low', high'⟩ := bresenham_balance le bound low high
    obtain ⟨run, rest⟩ := ih (bresenham c inc sec).acc inc sec le bound low' high'
    have steps : (bresenhamRun inc sec (n + 1) c) =
        ((bresenhamRun inc sec n (bresenham c inc sec).acc).1,
          (bresenhamRun inc sec n (bresenham c inc sec).acc).2 + if (bresenham c inc sec).step then 1 else 0) := rfl
    rw [steps]
    refine ⟨?_, rest.1, rest.2.1, ?_⟩
    · dsimp only
      rw [Nat.add_mul, ite_mul, one_mul, zero_mul, Nat.succ_mul]
      omega
    · have := rest.2.2
      split <;> omega

/-! ## Positions after a number of steps (41_see_tick R186, R194) -/

/-- A position `n` units on in a direction, modulo 2^32. -/
def movedBy (negative : Bool) (n : Nat) (p : Word) : Word :=
  if negative then p - BitVec.ofNat 32 n else p + BitVec.ofNat 32 n

@[simp] theorem movedBy_zero (negative : Bool) (p : Word) : movedBy negative 0 p = p := by
  cases negative <;> simp [movedBy]

theorem movedBy_add (negative : Bool) (m n : Nat) (p : Word) :
    movedBy negative m (movedBy negative n p) = movedBy negative (n + m) p := by
  cases negative
  · simp [movedBy, BitVec.ofNat_add, BitVec.add_assoc]
  · simp only [movedBy, BitVec.ofNat_add, if_true]
    ring

theorem movePosition_eq_movedBy (negative : Bool) (p : Word) : movePosition negative p = movedBy negative 1 p := rfl

/-! ## Ticks of a bound segment (41_see_tick R185, R189) -/

/-- From `s` to `t` by `k` ticks of segment `f`: what they leave, and each existing axis run `k` updates on. -/
structure SegmentTicks (f : Segment) (s : State) (k : Nat) (t : State) : Prop where
  cfg : t.cfg = s.cfg
  head : t.head = s.head
  ring : t.ring = s.ring
  pool : t.pool = s.pool
  epoch : t.epoch = s.epoch
  timer : t.timer = s.timer
  spindle : t.spindlePwmOut = s.spindlePwmOut
  blockIndex : t.exec.blockIndex = s.exec.blockIndex
  blockValid : t.exec.blockValid = s.exec.blockValid
  steps : t.exec.steps = s.exec.steps
  counter : ∀ i : Axis, i.val < s.cfg.nAxis → t.exec.counter.get i =
    (bresenhamRun (s.exec.steps.get i) (s.blkSec s.exec.blockIndex.toNat) k (s.exec.counter.get i)).1
  position : f.backlashMotion = false → ∀ i : Axis, i.val < s.cfg.nAxis → t.sysPosition.get i =
    movedBy ((s.blkFlg s.exec.blockIndex.toNat).getLsbD i.val)
      (bresenhamRun (s.exec.steps.get i) (s.blkSec s.exec.blockIndex.toNat) k (s.exec.counter.get i)).2
      (s.sysPosition.get i)

theorem SegmentTicks.zero (f : Segment) (s : State) : SegmentTicks f s 0 s := by
  constructor <;> simp [bresenhamRun]

/-- Pool words are the same where pool, epoch and configuration are. -/
theorem State.blkSec_congr {s t : State} (pool : t.pool = s.pool) (epoch : t.epoch = s.epoch) (b : Nat) :
    t.blkSec b = s.blkSec b := by
  rw [State.blkSec, State.blkSec, State.poolWord, State.poolWord, pool, epoch]

theorem State.blkFlg_congr {s t : State} (cfg : t.cfg = s.cfg) (pool : t.pool = s.pool) (epoch : t.epoch = s.epoch)
    (b : Nat) : t.blkFlg b = s.blkFlg b := by
  rw [State.blkFlg, State.blkFlg, State.poolWord, State.poolWord, cfg, pool, epoch]

theorem State.blkSteps_congr {s t : State} (pool : t.pool = s.pool) (epoch : t.epoch = s.epoch) (b i : Nat) :
    t.blkSteps b i = s.blkSteps b i := by
  rw [State.blkSteps, State.blkSteps, State.poolWord, State.poolWord, pool, epoch]

/-- One tick, then `k` more. -/
theorem SegmentTicks.succ {f : Segment} {s t : State} {k : Nat} (rest : SegmentTicks f (s.runSegment f) k t) :
    SegmentTicks f s (k + 1) t := by
  have exec := State.runSegment_exec f s
  have index : (s.runSegment f).exec.blockIndex = s.exec.blockIndex := by rw [exec]
  have steps : (s.runSegment f).exec.steps = s.exec.steps := by rw [exec]
  have sec := State.blkSec_congr (State.runSegment_pool f s) (State.runSegment_epoch f s) s.exec.blockIndex.toNat
  have flg := State.blkFlg_congr (State.runSegment_cfg f s) (State.runSegment_pool f s) (State.runSegment_epoch f s)
    s.exec.blockIndex.toNat
  constructor
  case counter =>
    intro i axis
    rw [rest.counter i (by simpa using axis), index, steps, sec, State.runSegment_counter f axis]
    rfl
  case position =>
    intro noBacklash i axis
    rw [rest.position noBacklash i (by simpa using axis), index, steps, sec, flg, State.runSegment_counter f axis,
      State.runSegment_position f axis, noBacklash]
    simp only [bresenhamRun, State.axisUpdate, movePosition_eq_movedBy, Bool.not_false, Bool.and_true]
    split
    · rw [movedBy_add, Nat.add_comm]
    · rfl
  case cfg => rw [rest.cfg, State.runSegment_cfg]
  case head => rw [rest.head, State.runSegment_head]
  case ring => rw [rest.ring, State.runSegment_ring]
  case pool => rw [rest.pool, State.runSegment_pool]
  case epoch => rw [rest.epoch, State.runSegment_epoch]
  case timer => rw [rest.timer, State.runSegment_timer]
  case spindle => rw [rest.spindle, State.runSegment_spindlePwmOut]
  case blockIndex => rw [rest.blockIndex, index]
  case blockValid => rw [rest.blockValid, exec]
  case steps => rw [rest.steps, steps]

/-- Phase A changes nothing a tick of the segment depends on. -/
theorem SegmentTicks.of_phaseA {f : Segment} {s t : State} {k : Nat} (ticks : SegmentTicks f s.phaseA k t) :
    SegmentTicks f s k t :=
  ⟨ticks.cfg, ticks.head, ticks.ring, ticks.pool, ticks.epoch, ticks.timer, ticks.spindle, ticks.blockIndex,
    ticks.blockValid, ticks.steps, ticks.counter, ticks.position⟩

/-- With a segment bound, the handler runs one tick of the segment at `tail`. -/
theorem State.tickHandler_of_bound {s : State} (bound : s.exec.segValid = true) :
    s.tickHandler = s.phaseA.runSegment (s.segment s.tail) := by
  have has : s.hasSegment = true := by simp [State.hasSegment, bound]
  have tick : s.tickHandler = s.segmentTick (s.segment s.tail) := if_pos has
  exact tick.trans (if_pos bound)

/-- A count other than 0 goes down by one as a number. -/
theorem toNat_sub_one {n : Half} (pos : 0 < n.toNat) : (n - 1).toNat = n.toNat - 1 := by
  have := n.isLt
  have one : (1 : Half).toNat = 1 := rfl
  rw [BitVec.toNat_sub, one]
  omega

/-- Where the segment at the `tail` of `s` stands in `t` with `left` ticks to go: bound and counting down, or retired
when none is left. -/
structure SegmentProgress (s : State) (left : Nat) (t : State) : Prop where
  cfg : t.cfg = s.cfg
  ring : t.ring = s.ring
  epoch : t.epoch = s.epoch
  running : 0 < left → t.exec.segValid = true ∧ t.tail = s.tail ∧ t.exec.stepCount.toNat = left
  retired : left = 0 → t.exec.segValid = false ∧ t.tail = nextIndex s.cfg s.tail

/-- One tick of a bound segment leaves the count less one. -/
theorem State.runSegment_progress (f : Segment) {s : State} (bound : s.exec.segValid = true) :
    SegmentProgress s (s.exec.stepCount - 1).toNat (s.runSegment f) := by
  have exec := State.runSegment_exec f s
  refine ⟨by simp, by simp, by simp, ?running, ?retired⟩
  case running =>
    intro left
    have more : s.exec.stepCount ≠ 1 := by
      intro one
      simp [one] at left
    obtain ⟨valid, tail⟩ := State.runSegment_more f more
    exact ⟨valid.trans bound, tail, by rw [exec]⟩
  case retired =>
    intro none
    have zero : s.exec.stepCount - 1 = 0 := BitVec.eq_of_toNat_eq none
    exact State.runSegment_last f (sub_eq_zero.1 zero)

/-- A handler with a tick of the segment left runs it. -/
theorem SegmentProgress.tick {s t : State} {left : Nat} (progress : SegmentProgress s (left + 1) t) :
    t.tickHandler = t.phaseA.runSegment (s.segment s.tail) ∧ SegmentProgress s left t.tickHandler := by
  obtain ⟨valid, tail, count⟩ := progress.running (Nat.succ_pos left)
  have same : t.segment t.tail = s.segment s.tail := by
    rw [tail]
    exact State.segment_congr progress.epoch fun a _ _ => by rw [progress.ring]
  have tick := State.tickHandler_of_bound valid
  have next := State.runSegment_progress (s.segment s.tail) (s := t.phaseA) valid
  have less : (t.phaseA.exec.stepCount - 1).toNat = left := by
    have exact_ := toNat_sub_one (n := t.exec.stepCount) (by omega)
    exact exact_.trans (by omega)
  rw [same] at tick
  rw [less, ← tick] at next
  refine ⟨tick, next.cfg.trans progress.cfg, next.ring.trans progress.ring, next.epoch.trans progress.epoch, ?_, ?_⟩
  · intro more
    obtain ⟨valid', tail', count'⟩ := next.running more
    exact ⟨valid', tail'.trans tail, count'⟩
  · intro none
    obtain ⟨retired, tail'⟩ := next.retired none
    refine ⟨retired, tail'.trans ?_⟩
    rw [← progress.cfg, ← tail]
    rfl

/-- The ticks of a bound segment, up to its last. -/
theorem SegmentProgress.ticks (k : Nat) {s t : State} {left : Nat} (progress : SegmentProgress s (k + left) t) :
    SegmentTicks (s.segment s.tail) t k (t.ticks k) ∧ SegmentProgress s left (t.ticks k) := by
  induction k generalizing t with
  | zero => exact ⟨.zero _ t, by rwa [Nat.zero_add] at progress⟩
  | succ k ih =>
    obtain ⟨tick, next⟩ := SegmentProgress.tick (left := k + left) (by rwa [Nat.add_right_comm] at progress)
    obtain ⟨rest, done⟩ := ih next
    refine ⟨?_, done⟩
    show SegmentTicks _ t (k + 1) (t.tickHandler.ticks k)
    generalize t.tickHandler.ticks k = u at rest ⊢
    rw [tick] at rest
    exact rest.succ.of_phaseA

/-! ## A segment from its load to its last tick (41_see_tick R189, R190) -/

/-- With nothing bound and a segment at `tail` that names a pool entry, the handler loads it and runs its first tick. -/
theorem State.tickHandler_of_loading {s : State} (idle : s.exec.segValid = false) (live : s.head ≠ s.tail)
    (inPool : (s.segment s.tail).stBlockIndex.toNat < s.cfg.nBlk) :
    s.tickHandler = (s.phaseA.loadSegment (s.segment s.tail)).runSegment (s.segment s.tail) := by
  have has : s.hasSegment = true := by simp [State.hasSegment, State.isEmpty, live]
  have tick : s.tickHandler = s.segmentTick (s.segment s.tail) := if_pos has
  exact tick.trans (Host.Outcome.next.inj (exec_seg_of_loading idle inPool))

end Sys2Proof.Machine

namespace Sys2Proof

/-- A segment runs at least one tick, and its count after that one is the number of ticks left. -/
theorem Segment.ticks_pos (f : Segment) : 1 ≤ f.ticks ∧ (f.nStep - 1).toNat = f.ticks - 1 := by
  have := f.nStep.isLt
  have one : (1 : Half).toNat = 1 := rfl
  unfold Segment.ticks
  rw [BitVec.toNat_sub, one]
  split <;> omega

end Sys2Proof

namespace Sys2Proof.Machine

/-- From an idle machine with a segment at `tail`: after `k` of its ticks, at least one, the loaded state has run `k`
ticks. -/
theorem ticks_of_loading {s : State} (idle : s.exec.segValid = false) (live : s.head ≠ s.tail)
    (inPool : (s.segment s.tail).stBlockIndex.toNat < s.cfg.nBlk) {k : Nat} (pos : 0 < k)
    (le : k ≤ (s.segment s.tail).ticks) :
    SegmentTicks (s.segment s.tail) (s.phaseA.loadSegment (s.segment s.tail)) k (s.ticks k) ∧
      SegmentProgress s ((s.segment s.tail).ticks - k) (s.ticks k) := by
  obtain ⟨atLeast, count⟩ := (s.segment s.tail).ticks_pos
  obtain ⟨j, rfl⟩ : ∃ j, k = j + 1 := ⟨k - 1, by omega⟩
  have tick := State.tickHandler_of_loading idle live inPool
  have loaded := State.loadSegment_exec (s.segment s.tail) s.phaseA
  have first := State.runSegment_progress (s.segment s.tail) (s := s.phaseA.loadSegment (s.segment s.tail))
    (by rw [loaded])
  have left : ((s.phaseA.loadSegment (s.segment s.tail)).exec.stepCount - 1).toNat =
      j + ((s.segment s.tail).ticks - (j + 1)) := by
    rw [loaded, count]
    omega
  rw [left, ← tick] at first
  have progress : SegmentProgress s (j + ((s.segment s.tail).ticks - (j + 1))) s.tickHandler :=
    ⟨by simp, by simp, by simp, by simpa using first.running, by simpa using first.retired⟩
  obtain ⟨rest, done⟩ := progress.ticks
  refine ⟨?_, done⟩
  show SegmentTicks _ _ (j + 1) (s.tickHandler.ticks j)
  generalize s.tickHandler.ticks j = u at rest ⊢
  rw [tick] at rest
  exact rest.succ

/-- Settles O33. -/
theorem segmentRunsItsTicks : Obligations.SegmentRunsItsTicks := by
  rintro s f legal idle live rfl inPool
  have atLeast := (s.segment s.tail).ticks_pos.1
  obtain ⟨all, done⟩ := ticks_of_loading idle live inPool atLeast le_rfl
  obtain ⟨retired, tail⟩ := done.retired (Nat.sub_self _)
  refine ⟨?_, retired, by rw [tail, nextIndex_toNat legal], ?_, ?_⟩
  · intro k pos more
    obtain ⟨some, progress⟩ := ticks_of_loading idle live inPool pos more.le
    obtain ⟨valid, tail, count⟩ := progress.running (Nat.sub_pos_of_lt more)
    exact ⟨valid, tail, count, some.blockIndex.trans (State.loadSegment_blockIndex _ _)⟩
  · rw [all.timer, State.loadSegment_timer]
    exact clampReload_toNat legal _
  · rw [all.spindle, State.loadSegment_spindlePwmOut]

/-! ## Step conservation (41_see_tick section 7) -/

theorem State.ticks_add (m n : Nat) (s : State) : s.ticks (m + n) = (s.ticks m).ticks n := by
  induction m generalizing s with
  | zero => rw [Nat.zero_add]; rfl
  | succ m ih =>
    rw [Nat.add_right_comm]
    exact ih s.tickHandler

/-- The accumulator a segment of block `b` starts at: the axis's own, or half the event count when the block is new
(41_see_tick R180, R181). -/
def State.accumulator (s : State) (b : BitVec 8) (i : Axis) : Word :=
  if s.exec.blockValid = false ∨ b ≠ s.exec.blockIndex then s.blkSec b.toNat >>> 1 else s.exec.counter.get i

/-- From `s` to `t` by `n` whole segments of block `b` that deliver `d` of its events: each axis has taken a number of
steps that accounts for what the segments added. -/
structure Delivered (s : State) (b : BitVec 8) (counts : Axis → Nat) (n d : Nat) (t : State) : Prop where
  cfg : t.cfg = s.cfg
  head : t.head = s.head
  ring : t.ring = s.ring
  pool : t.pool = s.pool
  epoch : t.epoch = s.epoch
  idle : t.exec.segValid = false
  tail : t.tail.toNat = (s.tail.toNat + n) % s.cfg.nSeg
  block : 0 < n → t.exec.blockValid = true ∧ t.exec.blockIndex = b
  axes : ∀ i : Axis, i.val < s.cfg.nAxis →
    (1 ≤ (t.accumulator b i).toNat ∧ (t.accumulator b i).toNat ≤ (s.blkSec b.toNat).toNat) ∧
    ∃ steps, t.sysPosition.get i = movedBy ((s.blkFlg b.toNat).getLsbD i.val) steps (s.sysPosition.get i) ∧
      (t.accumulator b i).toNat + steps * (s.blkSec b.toNat).toNat =
        (s.accumulator b i).toNat + d * (counts i * 2 ^ s.cfg.maxAmassLevel)

/-- The accumulator of an existing axis after a load is the one a segment of its block starts at. -/
theorem State.loadSegment_accumulator (f : Segment) {s : State} {i : Axis} (axis : i.val < s.cfg.nAxis) :
    (s.phaseA.loadSegment f).exec.counter.get i = s.accumulator f.stBlockIndex i :=
  State.loadSegment_counter f (s := s.phaseA) axis

/-- What a well-formed segment adds over its ticks: its share of the axis's count (45_producer_contract R241, R242). -/
theorem delivered_increment {f : Segment} {increment : Word} {count level : Nat} (le : f.amassLevel.toNat ≤ level)
    (multiple : 2 ^ f.amassLevel.toNat ∣ f.nStep.toNat) (steps : increment.toNat = count * 2 ^ level) :
    f.nStep.toNat * (increment >>> f.amassLevel.toNat).toNat = f.delivers * (count * 2 ^ level) := by
  have whole : f.delivers * 2 ^ f.amassLevel.toNat = f.nStep.toNat := Nat.div_mul_cancel multiple
  have power : 2 ^ level = 2 ^ f.amassLevel.toNat * 2 ^ (level - f.amassLevel.toNat) := by
    rw [← pow_add, Nat.add_sub_cancel' le]
  have shifted : (increment >>> f.amassLevel.toNat).toNat = count * 2 ^ (level - f.amassLevel.toNat) := by
    rw [BitVec.toNat_ushiftRight, Nat.shiftRight_eq_div_pow, steps]
    refine Nat.div_eq_of_eq_mul_left (by positivity) ?_
    rw [power]
    ring
  rw [shifted, ← whole, power]
  ring

/-- One more segment of the block. -/
theorem Delivered.segment {s t : State} {b : BitVec 8} {events n d : Nat} {counts : Axis → Nat}
    (before : Delivered s b counts n d t) (legal : s.cfg.legal = true)
    (block : s.WellFormedBlock b.toNat events counts) (live : t.head ≠ t.tail) {f : Segment}
    (fetched : t.segment t.tail = f) (wellFormed : s.cfg.WellFormedSegment f) (ofBlock : f.stBlockIndex = b)
    (noBacklash : f.backlashMotion = false) :
    Delivered s b counts (n + 1) (d + f.delivers) (t.ticks f.nStep.toNat) := by
  have ticksEq : f.ticks = f.nStep.toNat := if_neg (Nat.pos_iff_ne_zero.1 wellFormed.positive)
  have inPool : (t.segment t.tail).stBlockIndex.toNat < t.cfg.nBlk := by
    rw [fetched, before.cfg]
    exact wellFormed.index
  obtain ⟨ticks, progress⟩ := ticks_of_loading before.idle live inPool (t.segment t.tail).ticks_pos.1 le_rfl
  rw [fetched, ticksEq] at ticks progress
  obtain ⟨retired, tail⟩ := progress.retired (Nat.sub_self _)
  have index : (t.ticks f.nStep.toNat).exec.blockIndex = b :=
    ticks.blockIndex.trans ((State.loadSegment_blockIndex f t.phaseA).trans ofBlock)
  have valid : (t.ticks f.nStep.toNat).exec.blockValid = true := by
    rw [ticks.blockValid, State.loadSegment_exec]
  have pool := ticks.pool.trans (State.loadSegment_pool f t.phaseA)
  have epoch := ticks.epoch.trans (State.loadSegment_epoch f t.phaseA)
  refine ⟨progress.cfg.trans before.cfg, ?head, progress.ring.trans before.ring, pool.trans before.pool,
    epoch.trans before.epoch, retired, ?tail, fun _ => ⟨valid, index⟩, ?axes⟩
  case head => exact ticks.head.trans ((State.loadSegment_head f t.phaseA).trans before.head)
  case tail =>
    rw [tail, before.cfg, nextIndex_toNat legal, before.tail, Nat.mod_add_mod, Nat.add_assoc]
  case axes =>
    intro i axis
    obtain ⟨⟨low, high⟩, steps, position, balance⟩ := before.axes i axis
    have axis' : i.val < t.cfg.nAxis := by rwa [before.cfg]
    have here : i.val < (t.phaseA.loadSegment f).cfg.nAxis := by simpa using axis'
    have increment := State.loadSegment_steps f (s := t.phaseA) axis'
    have counter := State.loadSegment_accumulator f axis'
    have moved := ticks.position noBacklash i here
    have ended := ticks.counter i here
    have sec : (t.phaseA.loadSegment f).blkSec b.toNat = s.blkSec b.toNat :=
      (State.loadSegment_blkSec f t.phaseA _).trans (State.blkSec_congr before.pool before.epoch _)
    have flg : (t.phaseA.loadSegment f).blkFlg b.toNat = s.blkFlg b.toNat :=
      (State.loadSegment_blkFlg f t.phaseA _).trans (State.blkFlg_congr before.cfg before.pool before.epoch _)
    have planned : t.phaseA.blkSteps b.toNat i.val = s.blkSteps b.toNat i.val :=
      State.blkSteps_congr before.pool before.epoch _ _
    have start : (t.phaseA.loadSegment f).sysPosition.get i = t.sysPosition.get i := by simp
    rw [State.loadSegment_blockIndex, ofBlock, sec, increment, ofBlock, planned, counter, ofBlock] at moved ended
    rw [flg, start, position, movedBy_add] at moved
    have added := delivered_increment wellFormed.level wellFormed.multiple (block.steps i axis)
    have small : (s.blkSteps b.toNat i.val >>> f.amassLevel.toNat).toNat ≤ (s.blkSec b.toNat).toNat := by
      rw [BitVec.toNat_ushiftRight, block.sec]
      exact (Nat.shiftRight_le _ _).trans ((block.steps i axis).trans_le (Nat.mul_le_mul_right _ (block.le i axis)))
    obtain ⟨run, low', high', -⟩ :=
      tracerRunBalances f.nStep.toNat _ _ _ small (block.sec.trans_lt block.bound) low high
    have accumulator : (t.ticks f.nStep.toNat).accumulator b i = (t.ticks f.nStep.toNat).exec.counter.get i :=
      if_neg (by simp [valid, index])
    rw [accumulator, ended]
    refine ⟨⟨low', high'⟩, _, moved, ?_⟩
    rw [added] at run
    rw [Nat.add_mul, Nat.add_mul]
    omega

/-- A slot of the ring within the live ones is not `head`. -/
theorem State.head_ne_of_lt_count {s : State} (inv : s.RingInv) {n : Nat} (live : n < s.count) :
    s.head.toNat ≠ (s.tail.toNat + n) % s.cfg.nSeg := by
  obtain ⟨head, tail, -⟩ := inv
  have count := State.count_eq head tail
  rcases Nat.lt_or_ge (s.tail.toNat + n) s.cfg.nSeg with inside | wraps
  · rw [Nat.mod_eq_of_lt inside]
    split at count <;> omega
  · rw [Nat.mod_eq_sub_mod wraps, Nat.mod_eq_of_lt (by split at count <;> omega)]
    split at count <;> omega

/-- The segments of the block still in the queue, one after another. -/
theorem Delivered.segments {s : State} {b : BitVec 8} {events : Nat} {counts : Axis → Nat} (legal : s.cfg.legal = true)
    (inv : s.RingInv) (block : s.WellFormedBlock b.toNat events counts) {fs : List Segment} {t : State} {n d : Nat}
    (before : Delivered s b counts n d t)
    (wellFormed : ∀ f ∈ fs, s.cfg.WellFormedSegment f ∧ f.stBlockIndex = b ∧ f.backlashMotion = false)
    (room : n + fs.length ≤ s.count)
    (queued : ∀ k (h : k < fs.length), s.segment (BitVec.ofNat 8 ((s.tail.toNat + (n + k)) % s.cfg.nSeg)) = fs[k]) :
    Delivered s b counts (n + fs.length) (d + (fs.map Segment.delivers).sum)
      (t.ticks (fs.map fun f => f.nStep.toNat).sum) := by
  induction fs generalizing t n d with
  | nil => exact before
  | cons f fs ih =>
    obtain ⟨wf, ofBlock, noBacklash⟩ := wellFormed f List.mem_cons_self
    have place : BitVec.ofNat 8 ((s.tail.toNat + n) % s.cfg.nSeg) = t.tail := by
      rw [← before.tail, BitVec.ofNat_toNat, BitVec.setWidth_eq]
    have fetched : t.segment t.tail = f := by
      rw [State.segment_congr before.epoch fun a _ _ => by rw [before.ring], ← place]
      exact queued 0 (Nat.succ_pos _)
    have live : t.head ≠ t.tail := by
      rw [State.head_ne_tail_iff, before.head, before.tail]
      exact State.head_ne_of_lt_count inv (by simp at room; omega)
    have next := before.segment legal block live fetched wf ofBlock noBacklash
    have rest := ih next (fun g mem => wellFormed g (List.mem_cons_of_mem f mem)) (by simp at room; omega) ?queue
    case queue =>
      intro k h
      have here := queued (k + 1) (Nat.succ_lt_succ h)
      rw [show n + (k + 1) = n + 1 + k by omega] at here
      exact here
    rw [List.map_cons, List.sum_cons, List.map_cons, List.sum_cons, State.ticks_add, List.length_cons,
      ← Nat.add_assoc d, show n + (fs.length + 1) = n + 1 + fs.length by omega]
    exact rest

/-- Before its first segment nothing of the block is delivered, and each accumulator stands at half the event count. -/
theorem Delivered.none {s : State} {b : BitVec 8} {events : Nat} (counts : Axis → Nat) (legal : s.cfg.legal = true)
    (inv : s.RingInv) (idle : s.exec.segValid = false) (block : s.WellFormedBlock b.toNat events counts)
    (new : s.exec.blockValid = false ∨ s.exec.blockIndex ≠ b) :
    (∀ i, (s.accumulator b i).toNat = (s.blkSec b.toNat).toNat / 2) ∧ Delivered s b counts 0 0 s := by
  have start : ∀ i, (s.accumulator b i).toNat = (s.blkSec b.toNat).toNat / 2 := by
    intro i
    rw [State.accumulator, if_pos (new.imp_right Ne.symm), half_toNat]
  refine ⟨start, rfl, rfl, rfl, rfl, rfl, idle, (Nat.mod_eq_of_lt inv.2.1).symm, nofun, ?_⟩
  intro i _
  have even : 2 ≤ (s.blkSec b.toNat).toNat := by
    obtain ⟨-, -, ⟨levels, -⟩, -⟩ := (Config.legal_iff s.cfg).1 legal
    rw [block.sec]
    calc 2 = 2 ^ 1 := rfl
      _ ≤ 2 ^ s.cfg.maxAmassLevel := Nat.pow_le_pow_right two_pos levels
      _ ≤ events * 2 ^ s.cfg.maxAmassLevel := Nat.le_mul_of_pos_left _ block.positive
  refine ⟨by rw [start]; omega, 0, by rw [movedBy_zero], by simp⟩

/-- An accumulator in `1..sec` that started there takes exactly `n` steps for `n` times the event count. -/
theorem steps_of_balance {acc start sec steps n : Nat} (low : 1 ≤ acc) (high : acc ≤ sec) (startLow : 1 ≤ start)
    (startHigh : start ≤ sec) (balance : acc + steps * sec = start + n * sec) : steps = n ∧ acc = start := by
  have equal : steps = n := by
    rcases lt_trichotomy steps n with less | same | more
    · have := Nat.mul_le_mul_right sec (Nat.succ_le_of_lt less)
      rw [Nat.succ_mul] at this
      omega
    · exact same
    · have := Nat.mul_le_mul_right sec (Nat.succ_le_of_lt more)
      rw [Nat.succ_mul] at this
      omega
  subst equal
  exact ⟨rfl, by omega⟩

/-- Settles O34: the segments deliver the event count, so each axis has taken its count of steps. -/
theorem stepConservation : Obligations.StepConservation := by
  intro s fs b events counts legal inv idle queued wellFormed block total new t
  obtain ⟨start, none⟩ := Delivered.none counts legal inv idle block new
  have all := none.segments legal inv block wellFormed (by simpa using queued.1) (by simpa using queued.2)
  rw [total, Nat.zero_add, Nat.zero_add] at all
  have delivers : 0 < fs.length := by
    rw [List.length_pos_iff]
    rintro rfl
    exact absurd total (Nat.ne_of_lt block.positive)
  obtain ⟨valid, index⟩ := all.block delivers
  refine ⟨all.idle, all.tail, ?_⟩
  intro i axis
  have accumulator : t.accumulator b i = t.exec.counter.get i := if_neg (by simp [t, valid, index])
  obtain ⟨⟨low, high⟩, steps, position, balance⟩ := all.axes i axis
  obtain ⟨⟨startLow, startHigh⟩, -⟩ := none.axes i axis
  have events_sec : events * (counts i * 2 ^ s.cfg.maxAmassLevel) = counts i * (s.blkSec b.toNat).toNat := by
    rw [block.sec]
    ring
  rw [events_sec] at balance
  obtain ⟨rfl, final⟩ := steps_of_balance low high startLow startHigh balance
  refine ⟨position, ?_⟩
  rw [← accumulator, ← block.sec, ← start i]
  exact final

end Sys2Proof.Machine
end
